-- ==== Sys2Proof/Word.lean ====
section
/-! DEFINITION. The machine's data types (20_memory.md R101): bytes of 8 bits, words of 32 bits. -/

namespace Sys2Proof

/-- A 32-bit word: a register, an address, an instruction (00_scope.md R5, R8). -/
abbrev Word := BitVec 32

/-- An 8-bit byte, the unit of memory (20_memory.md R100, R101). -/
abbrev Byte := BitVec 8

end Sys2Proof
end

