-- ==== Sys2Proof/Machine/Bytes.lean ====
section
/-! DEFINITION. Byte order: how the bytes of memory, lowest address first, form a word, and how a word is laid out
in bytes (20_memory.md R103). -/

namespace Sys2Proof.Machine

/-- Bytes read as one number, the first the least significant (20_memory.md R103, little endian). -/
def assembleLittle (bytes : List Byte) : Word :=
  match bytes with
  | [] => 0#32
  | b :: rest => (assembleLittle rest <<< 8) ||| b.setWidth 32

/-- The word formed by bytes at ascending addresses in the given byte order (20_memory.md R103); fewer than four
bytes form a byte or a halfword, zero extended. -/
def assemble (bigend : Bool) (bytes : List Byte) : Word :=
  if bigend then assembleLittle bytes.reverse else assembleLittle bytes

/-- The `n` low bytes of a word, the least significant first (20_memory.md R103, little endian). -/
def disassembleLittle (n : Nat) (v : Word) : List Byte :=
  match n with
  | 0 => []
  | n + 1 => v.setWidth 8 :: disassembleLittle n (v >>> 8)

/-- The `n` low bytes of a word in the order of ascending addresses (20_memory.md R103). -/
def disassemble (bigend : Bool) (n : Nat) (v : Word) : List Byte :=
  if bigend then (disassembleLittle n v).reverse else disassembleLittle n v

end Sys2Proof.Machine
end

