-- ==== Sys2Proof/Config.lean ====
section
/-! DEFINITION. The values that the spec leaves open while the machine goes on. -/

namespace Sys2Proof

/-- DESIGN CHOICE (notes/assumptions/8.md): the values of `draw(N)` (00_scope.md R9), "an arbitrary N-bit value, not
fixed by any source". `Config.draw w k` is the `k`-th free value, at width `w`. It has no body, so no proof can rest
on what it is. Safe. -/
opaque Config.draw : (w : Nat) → Nat → BitVec w

end Sys2Proof
end

