-- ==== Sys2Proof/Syntax.lean ====
section
/-! DEFINITION. The ARM-state instructions of spec/opcode_table.json, one constructor of `Instr` per row
(30_encoding.md R160 to R192). Fields are the manual's; a field the processor ignores is kept, so that
no bit of an encoding is lost. -/

namespace Sys2Proof

/-- A register field: R0 to R15 (30_encoding.md R175). -/
abbrev Reg := BitVec 4

/-- The fifteen usable conditions of Table 3-2 (30_encoding.md R171); 1111 is reserved (R164). -/
inductive Cond where
  | eq | ne | cs | cc | mi | pl | vs | vc | hi | ls | ge | lt | gt | le | al
  deriving DecidableEq, Repr

/-- The sixteen data-processing opcodes, in the order of their codes 0000 to 1111 (30_encoding.md R175). -/
inductive Opcode where
  | and | eor | sub | rsb | add | adc | sbc | rsc | tst | teq | cmp | cmn | orr | mov | bic | mvn
  deriving DecidableEq, Repr

/-- The shift types, in the order of their codes 00 to 11 (30_encoding.md R195). -/
inductive ShiftKind where
  | lsl | lsr | asr | ror
  deriving DecidableEq, Repr

/-- A rotated immediate operand: Rotate and Imm (30_encoding.md R196). -/
structure RotImm where
  rot : BitVec 4
  imm : BitVec 8
  deriving DecidableEq, Repr

/-- A register operand shifted by an amount in the instruction (30_encoding.md R195, first form). -/
structure ShiftImm where
  amount : BitVec 5
  kind : ShiftKind
  rm : Reg
  deriving DecidableEq, Repr

/-- A register operand shifted by the bottom byte of Rs (30_encoding.md R195, second form). -/
structure ShiftReg where
  rs : Reg
  kind : ShiftKind
  rm : Reg
  deriving DecidableEq, Repr

/-- The reasons for which a word, or a list of bytes, is not an instruction of the model. -/
inductive DecodeError where
  /-- Bits 31:28 are 1111, "reserved, and must not be used" (30_encoding.md R164). Safe: no effect is invented. -/
  | reservedCondition
  /-- A code that is not defined and does not trap (30_encoding.md R163). Safe. -/
  | unallocated
  /-- A halfword-format word with L = 0 and S = 1 (30_encoding.md R163 (c), R184). Safe. -/
  | signedStore
  /-- Fewer than four bytes were given to the byte decoder; raised by `decodeBytes` only, never by a step. Safe. -/
  | truncated
  deriving DecidableEq, Repr

/-- An ARM-state instruction. Every constructor carries its condition `c`; `sf` is the S bit, `p`, `u`, `w`
are the P, U and W bits. -/
inductive Instr where
  /-- Branch and exchange (R182, R222). -/
  | bx (c : Cond) (rn : Reg)
  /-- PSR to register; `ps` = 1 names the SPSR (R176, R301). -/
  | mrs (c : Cond) (ps : Bool) (rd : Reg)
  /-- Register to the whole PSR (R177, R302). -/
  | msrReg (c : Cond) (pd : Bool) (rm : Reg)
  /-- Register to the PSR flag bits (R178, R303). -/
  | msrFlagsReg (c : Cond) (pd : Bool) (rm : Reg)
  /-- Immediate to the PSR flag bits (R178, R304). -/
  | msrFlagsImm (c : Cond) (pd : Bool) (o : RotImm)
  /-- Multiply; the `rn` field is ignored (R179, R321). -/
  | mul (c : Cond) (sf : Bool) (rd rn rs rm : Reg)
  /-- Multiply and accumulate (R179, R322). -/
  | mla (c : Cond) (sf : Bool) (rd rn rs rm : Reg)
  /-- Unsigned multiply long (R180, R331). -/
  | umull (c : Cond) (sf : Bool) (rdHi rdLo rs rm : Reg)
  /-- Unsigned multiply-accumulate long (R180, R332). -/
  | umlal (c : Cond) (sf : Bool) (rdHi rdLo rs rm : Reg)
  /-- Signed multiply long (R180, R333). -/
  | smull (c : Cond) (sf : Bool) (rdHi rdLo rs rm : Reg)
  /-- Signed multiply-accumulate long (R180, R334). -/
  | smlal (c : Cond) (sf : Bool) (rdHi rdLo rs rm : Reg)
  /-- Swap word (R181, R431). -/
  | swp (c : Cond) (rn rd rm : Reg)
  /-- Swap byte (R181, R431). -/
  | swpb (c : Cond) (rn rd rm : Reg)
  /-- STRH with a register offset (R183, R368). -/
  | strhReg (c : Cond) (p u w : Bool) (rn rd rm : Reg)
  /-- LDRH with a register offset (R183, R364). -/
  | ldrhReg (c : Cond) (p u w : Bool) (rn rd rm : Reg)
  /-- LDRSB with a register offset (R183, R365). -/
  | ldrsbReg (c : Cond) (p u w : Bool) (rn rd rm : Reg)
  /-- LDRSH with a register offset (R183, R367). -/
  | ldrshReg (c : Cond) (p u w : Bool) (rn rd rm : Reg)
  /-- STRH with an immediate offset (R184, R368). -/
  | strhImm (c : Cond) (p u w : Bool) (rn rd : Reg) (off : BitVec 8)
  /-- LDRH with an immediate offset (R184, R364). -/
  | ldrhImm (c : Cond) (p u w : Bool) (rn rd : Reg) (off : BitVec 8)
  /-- LDRSB with an immediate offset (R184, R365). -/
  | ldrsbImm (c : Cond) (p u w : Bool) (rn rd : Reg) (off : BitVec 8)
  /-- LDRSH with an immediate offset (R184, R367). -/
  | ldrshImm (c : Cond) (p u w : Bool) (rn rd : Reg) (off : BitVec 8)
  /-- AND with a rotated immediate (R175, R270). -/
  | andImm (c : Cond) (sf : Bool) (rn rd : Reg) (o : RotImm)
  /-- AND with a register shifted by an immediate amount (R175, R270). -/
  | andShift (c : Cond) (sf : Bool) (rn rd : Reg) (o : ShiftImm)
  /-- AND with a register shifted by a register (R175, R270). -/
  | andRegShift (c : Cond) (sf : Bool) (rn rd : Reg) (o : ShiftReg)
  /-- EOR with a rotated immediate (R175, R271). -/
  | eorImm (c : Cond) (sf : Bool) (rn rd : Reg) (o : RotImm)
  /-- EOR with a register shifted by an immediate amount (R175, R271). -/
  | eorShift (c : Cond) (sf : Bool) (rn rd : Reg) (o : ShiftImm)
  /-- EOR with a register shifted by a register (R175, R271). -/
  | eorRegShift (c : Cond) (sf : Bool) (rn rd : Reg) (o : ShiftReg)
  /-- SUB with a rotated immediate (R175, R272). -/
  | subImm (c : Cond) (sf : Bool) (rn rd : Reg) (o : RotImm)
  /-- SUB with a register shifted by an immediate amount (R175, R272). -/
  | subShift (c : Cond) (sf : Bool) (rn rd : Reg) (o : ShiftImm)
  /-- SUB with a register shifted by a register (R175, R272). -/
  | subRegShift (c : Cond) (sf : Bool) (rn rd : Reg) (o : ShiftReg)
  /-- RSB with a rotated immediate (R175, R273). -/
  | rsbImm (c : Cond) (sf : Bool) (rn rd : Reg) (o : RotImm)
  /-- RSB with a register shifted by an immediate amount (R175, R273). -/
  | rsbShift (c : Cond) (sf : Bool) (rn rd : Reg) (o : ShiftImm)
  /-- RSB with a register shifted by a register (R175, R273). -/
  | rsbRegShift (c : Cond) (sf : Bool) (rn rd : Reg) (o : ShiftReg)
  /-- ADD with a rotated immediate (R175, R274). -/
  | addImm (c : Cond) (sf : Bool) (rn rd : Reg) (o : RotImm)
  /-- ADD with a register shifted by an immediate amount (R175, R274). -/
  | addShift (c : Cond) (sf : Bool) (rn rd : Reg) (o : ShiftImm)
  /-- ADD with a register shifted by a register (R175, R274). -/
  | addRegShift (c : Cond) (sf : Bool) (rn rd : Reg) (o : ShiftReg)
  /-- ADC with a rotated immediate (R175, R275). -/
  | adcImm (c : Cond) (sf : Bool) (rn rd : Reg) (o : RotImm)
  /-- ADC with a register shifted by an immediate amount (R175, R275). -/
  | adcShift (c : Cond) (sf : Bool) (rn rd : Reg) (o : ShiftImm)
  /-- ADC with a register shifted by a register (R175, R275). -/
  | adcRegShift (c : Cond) (sf : Bool) (rn rd : Reg) (o : ShiftReg)
  /-- SBC with a rotated immediate (R175, R276). -/
  | sbcImm (c : Cond) (sf : Bool) (rn rd : Reg) (o : RotImm)
  /-- SBC with a register shifted by an immediate amount (R175, R276). -/
  | sbcShift (c : Cond) (sf : Bool) (rn rd : Reg) (o : ShiftImm)
  /-- SBC with a register shifted by a register (R175, R276). -/
  | sbcRegShift (c : Cond) (sf : Bool) (rn rd : Reg) (o : ShiftReg)
  /-- RSC with a rotated immediate (R175, R277). -/
  | rscImm (c : Cond) (sf : Bool) (rn rd : Reg) (o : RotImm)
  /-- RSC with a register shifted by an immediate amount (R175, R277). -/
  | rscShift (c : Cond) (sf : Bool) (rn rd : Reg) (o : ShiftImm)
  /-- RSC with a register shifted by a register (R175, R277). -/
  | rscRegShift (c : Cond) (sf : Bool) (rn rd : Reg) (o : ShiftReg)
  /-- TST with a rotated immediate (R175, R278). -/
  | tstImm (c : Cond) (rn rd : Reg) (o : RotImm)
  /-- TST with a register shifted by an immediate amount (R175, R278). -/
  | tstShift (c : Cond) (rn rd : Reg) (o : ShiftImm)
  /-- TST with a register shifted by a register (R175, R278). -/
  | tstRegShift (c : Cond) (rn rd : Reg) (o : ShiftReg)
  /-- TEQ with a rotated immediate (R175, R279). -/
  | teqImm (c : Cond) (rn rd : Reg) (o : RotImm)
  /-- TEQ with a register shifted by an immediate amount (R175, R279). -/
  | teqShift (c : Cond) (rn rd : Reg) (o : ShiftImm)
  /-- TEQ with a register shifted by a register (R175, R279). -/
  | teqRegShift (c : Cond) (rn rd : Reg) (o : ShiftReg)
  /-- CMP with a rotated immediate (R175, R280). -/
  | cmpImm (c : Cond) (rn rd : Reg) (o : RotImm)
  /-- CMP with a register shifted by an immediate amount (R175, R280). -/
  | cmpShift (c : Cond) (rn rd : Reg) (o : ShiftImm)
  /-- CMP with a register shifted by a register (R175, R280). -/
  | cmpRegShift (c : Cond) (rn rd : Reg) (o : ShiftReg)
  /-- CMN with a rotated immediate (R175, R281). -/
  | cmnImm (c : Cond) (rn rd : Reg) (o : RotImm)
  /-- CMN with a register shifted by an immediate amount (R175, R281). -/
  | cmnShift (c : Cond) (rn rd : Reg) (o : ShiftImm)
  /-- CMN with a register shifted by a register (R175, R281). -/
  | cmnRegShift (c : Cond) (rn rd : Reg) (o : ShiftReg)
  /-- ORR with a rotated immediate (R175, R282). -/
  | orrImm (c : Cond) (sf : Bool) (rn rd : Reg) (o : RotImm)
  /-- ORR with a register shifted by an immediate amount (R175, R282). -/
  | orrShift (c : Cond) (sf : Bool) (rn rd : Reg) (o : ShiftImm)
  /-- ORR with a register shifted by a register (R175, R282). -/
  | orrRegShift (c : Cond) (sf : Bool) (rn rd : Reg) (o : ShiftReg)
  /-- MOV with a rotated immediate (R175, R283). -/
  | movImm (c : Cond) (sf : Bool) (rn rd : Reg) (o : RotImm)
  /-- MOV with a register shifted by an immediate amount (R175, R283). -/
  | movShift (c : Cond) (sf : Bool) (rn rd : Reg) (o : ShiftImm)
  /-- MOV with a register shifted by a register (R175, R283). -/
  | movRegShift (c : Cond) (sf : Bool) (rn rd : Reg) (o : ShiftReg)
  /-- BIC with a rotated immediate (R175, R284). -/
  | bicImm (c : Cond) (sf : Bool) (rn rd : Reg) (o : RotImm)
  /-- BIC with a register shifted by an immediate amount (R175, R284). -/
  | bicShift (c : Cond) (sf : Bool) (rn rd : Reg) (o : ShiftImm)
  /-- BIC with a register shifted by a register (R175, R284). -/
  | bicRegShift (c : Cond) (sf : Bool) (rn rd : Reg) (o : ShiftReg)
  /-- MVN with a rotated immediate (R175, R285). -/
  | mvnImm (c : Cond) (sf : Bool) (rn rd : Reg) (o : RotImm)
  /-- MVN with a register shifted by an immediate amount (R175, R285). -/
  | mvnShift (c : Cond) (sf : Bool) (rn rd : Reg) (o : ShiftImm)
  /-- MVN with a register shifted by a register (R175, R285). -/
  | mvnRegShift (c : Cond) (sf : Bool) (rn rd : Reg) (o : ShiftReg)
  /-- The Undefined format; `hi` = bits 24:5, `lo` = bits 3:0, both without meaning (R186, R456). -/
  | undefined (c : Cond) (hi : BitVec 20) (lo : BitVec 4)
  /-- LDR, immediate offset, pre-indexed (R185, R356). -/
  | ldrImmPre (c : Cond) (u w : Bool) (rn rd : Reg) (off : BitVec 12)
  /-- LDR, register offset, pre-indexed (R185, R356). -/
  | ldrRegPre (c : Cond) (u w : Bool) (rn rd : Reg) (o : ShiftImm)
  /-- LDR, immediate offset, post-indexed (R185, R356). -/
  | ldrImmPost (c : Cond) (u : Bool) (rn rd : Reg) (off : BitVec 12)
  /-- LDR, register offset, post-indexed (R185, R356). -/
  | ldrRegPost (c : Cond) (u : Bool) (rn rd : Reg) (o : ShiftImm)
  /-- LDRT, immediate offset (R185, R360). -/
  | ldrtImm (c : Cond) (u : Bool) (rn rd : Reg) (off : BitVec 12)
  /-- LDRT, register offset (R185, R360). -/
  | ldrtReg (c : Cond) (u : Bool) (rn rd : Reg) (o : ShiftImm)
  /-- LDRB, immediate offset, pre-indexed (R185, R357). -/
  | ldrbImmPre (c : Cond) (u w : Bool) (rn rd : Reg) (off : BitVec 12)
  /-- LDRB, register offset, pre-indexed (R185, R357). -/
  | ldrbRegPre (c : Cond) (u w : Bool) (rn rd : Reg) (o : ShiftImm)
  /-- LDRB, immediate offset, post-indexed (R185, R357). -/
  | ldrbImmPost (c : Cond) (u : Bool) (rn rd : Reg) (off : BitVec 12)
  /-- LDRB, register offset, post-indexed (R185, R357). -/
  | ldrbRegPost (c : Cond) (u : Bool) (rn rd : Reg) (o : ShiftImm)
  /-- LDRBT, immediate offset (R185, R360). -/
  | ldrbtImm (c : Cond) (u : Bool) (rn rd : Reg) (off : BitVec 12)
  /-- LDRBT, register offset (R185, R360). -/
  | ldrbtReg (c : Cond) (u : Bool) (rn rd : Reg) (o : ShiftImm)
  /-- STR, immediate offset, pre-indexed (R185, R358). -/
  | strImmPre (c : Cond) (u w : Bool) (rn rd : Reg) (off : BitVec 12)
  /-- STR, register offset, pre-indexed (R185, R358). -/
  | strRegPre (c : Cond) (u w : Bool) (rn rd : Reg) (o : ShiftImm)
  /-- STR, immediate offset, post-indexed (R185, R358). -/
  | strImmPost (c : Cond) (u : Bool) (rn rd : Reg) (off : BitVec 12)
  /-- STR, register offset, post-indexed (R185, R358). -/
  | strRegPost (c : Cond) (u : Bool) (rn rd : Reg) (o : ShiftImm)
  /-- STRT, immediate offset (R185, R360). -/
  | strtImm (c : Cond) (u : Bool) (rn rd : Reg) (off : BitVec 12)
  /-- STRT, register offset (R185, R360). -/
  | strtReg (c : Cond) (u : Bool) (rn rd : Reg) (o : ShiftImm)
  /-- STRB, immediate offset, pre-indexed (R185, R359). -/
  | strbImmPre (c : Cond) (u w : Bool) (rn rd : Reg) (off : BitVec 12)
  /-- STRB, register offset, pre-indexed (R185, R359). -/
  | strbRegPre (c : Cond) (u w : Bool) (rn rd : Reg) (o : ShiftImm)
  /-- STRB, immediate offset, post-indexed (R185, R359). -/
  | strbImmPost (c : Cond) (u : Bool) (rn rd : Reg) (off : BitVec 12)
  /-- STRB, register offset, post-indexed (R185, R359). -/
  | strbRegPost (c : Cond) (u : Bool) (rn rd : Reg) (o : ShiftImm)
  /-- STRBT, immediate offset (R185, R360). -/
  | strbtImm (c : Cond) (u : Bool) (rn rd : Reg) (off : BitVec 12)
  /-- STRBT, register offset (R185, R360). -/
  | strbtReg (c : Cond) (u : Bool) (rn rd : Reg) (o : ShiftImm)
  /-- LDM with S = 1 and R15 in the list: the CPSR is restored (R187, R408). -/
  | ldmRestore (c : Cond) (p u w : Bool) (rn : Reg) (list : BitVec 16)
  /-- LDM with S = 1 and R15 not in the list: user bank transfer (R187, R409). -/
  | ldmUser (c : Cond) (p u w : Bool) (rn : Reg) (list : BitVec 16)
  /-- STM with S = 1: user bank transfer (R187, R409). -/
  | stmUser (c : Cond) (p u w : Bool) (rn : Reg) (list : BitVec 16)
  /-- LDMDA, S = 0 (R187, R213, R406). -/
  | ldmda (c : Cond) (w : Bool) (rn : Reg) (list : BitVec 16)
  /-- LDMIA, S = 0 (R187, R213, R406). -/
  | ldmia (c : Cond) (w : Bool) (rn : Reg) (list : BitVec 16)
  /-- LDMDB, S = 0 (R187, R213, R406). -/
  | ldmdb (c : Cond) (w : Bool) (rn : Reg) (list : BitVec 16)
  /-- LDMIB, S = 0 (R187, R213, R406). -/
  | ldmib (c : Cond) (w : Bool) (rn : Reg) (list : BitVec 16)
  /-- STMDA, S = 0 (R187, R213, R405). -/
  | stmda (c : Cond) (w : Bool) (rn : Reg) (list : BitVec 16)
  /-- STMIA, S = 0 (R187, R213, R405). -/
  | stmia (c : Cond) (w : Bool) (rn : Reg) (list : BitVec 16)
  /-- STMDB, S = 0 (R187, R213, R405). -/
  | stmdb (c : Cond) (w : Bool) (rn : Reg) (list : BitVec 16)
  /-- STMIB, S = 0 (R187, R213, R405). -/
  | stmib (c : Cond) (w : Bool) (rn : Reg) (list : BitVec 16)
  /-- Branch (R188, R223). -/
  | b (c : Cond) (off : BitVec 24)
  /-- Branch with link (R188, R224). -/
  | bl (c : Cond) (off : BitVec 24)
  /-- LDC, traps on this chip (R189, R452). -/
  | ldc (c : Cond) (p u n w : Bool) (rn crd cp : Reg) (off : BitVec 8)
  /-- STC, traps on this chip (R189, R452). -/
  | stc (c : Cond) (p u n w : Bool) (rn crd cp : Reg) (off : BitVec 8)
  /-- CDP, traps on this chip (R190, R451). -/
  | cdp (c : Cond) (opc : BitVec 4) (crn crd cp : Reg) (info : BitVec 3) (crm : Reg)
  /-- MCR, traps on this chip (R191, R453). -/
  | mcr (c : Cond) (opc : BitVec 3) (crn rd cp : Reg) (info : BitVec 3) (crm : Reg)
  /-- MRC, traps on this chip (R191, R453). -/
  | mrc (c : Cond) (opc : BitVec 3) (crn rd cp : Reg) (info : BitVec 3) (crm : Reg)
  /-- Software interrupt (R192, R440). -/
  | swi (c : Cond) (comment : BitVec 24)
  deriving DecidableEq, Repr

end Sys2Proof
end

