-- ==== Sys2Proof/Machine/State.lean ====
section
/-! DEFINITION. The state of the S3C44B0X's ARM7TDMI core and of what stands around it (10_state.md, 20_memory.md),
the reasons for which a step can stop, and the state after reset. Plain data throughout. -/

namespace Sys2Proof.Machine

/-! ### The processor -/

/-- The seven operating modes (10_state.md R49, R56). -/
inductive Mode where
  | usr | fiq | irq | svc | abt | sys | und
  deriving DecidableEq, Repr

/-- The thirty physical general registers other than the PC (10_state.md R30, R33); a name without a suffix is the
User and System register. -/
inductive PhysReg where
  | r0 | r1 | r2 | r3 | r4 | r5 | r6 | r7 | r8 | r9 | r10 | r11 | r12 | r13 | r14
  | r8fiq | r9fiq | r10fiq | r11fiq | r12fiq | r13fiq | r14fiq
  | r13irq | r14irq | r13svc | r14svc | r13abt | r14abt | r13und | r14und
  deriving DecidableEq, Repr

/-- A program status register: its twelve defined bits (10_state.md R45, R50). -/
structure PSR where
  n : Bool
  z : Bool
  c : Bool
  v : Bool
  i : Bool
  f : Bool
  t : Bool
  m : BitVec 5
  deriving DecidableEq, Repr

/-- The seven exceptions (60_exceptions.md R500). -/
inductive ExceptionKind where
  | reset | undefined | swi | prefetchAbort | dataAbort | irq | fiq
  deriving DecidableEq, Repr

/-! ### Memory and its surroundings -/

/-- The widths of an access (20_memory.md R101). -/
inductive Size where
  | byte | half | word
  deriving DecidableEq, Repr

/-- The kinds of access that the abort oracle tells apart (20_memory.md R127). -/
inductive AccessKind where
  | fetch | read | write
  deriving DecidableEq, Repr

/-- One access as the memory system sees it (92_eei_decisions.md D10): kind, address, size and the privileged
attribute. -/
structure Access where
  kind : AccessKind
  addr : Word
  size : Size
  privileged : Bool
  deriving DecidableEq, Repr

/-- The kinds of ordinary memory (20_memory.md R126: "RAM or ROM, with ROM refusing or ignoring writes"). -/
inductive MemKind where
  | ram | romIgnoring | romRefusing
  deriving DecidableEq, Repr

/-- A region of ordinary memory: the addresses from `base` to `base + size - 1`. -/
structure Region where
  base : Nat
  size : Nat
  kind : MemKind
  deriving DecidableEq, Repr

/-- MISALIGNED_WORD (20_memory.md R111). -/
inductive MisalignedWord where
  | align | refuse
  deriving DecidableEq, Repr

/-- The pins latched at the rising edge of nRESET (70_reset_and_hazards.md R601). -/
structure Pins where
  endian : Bool
  om : BitVec 4
  deriving DecidableEq, Repr

/-- What the outside does at one instruction boundary (60_exceptions.md R527, R533): a reset with the pins it
latches, and the levels of nFIQ and nIRQ (true = asserted, LOW). -/
structure Boundary where
  reset : Option Pins
  fiq : Bool
  irq : Bool
  deriving DecidableEq, Repr

/-- The special registers of Table 1-4 (10_state.md R70 to R84), each under the manual's name. -/
inductive SfrName where
  -- CPU wrapper (R70)
  | syscfg | ncachbe0 | ncachbe1 | sbuscon
  -- Memory controller (R71)
  | bwscon | bankcon0 | bankcon1 | bankcon2 | bankcon3 | bankcon4 | bankcon5 | bankcon6 | bankcon7 | refresh
  | banksize | mrsrb6 | mrsrb7
  -- UART (R72)
  | ulcon0 | ulcon1 | ucon0 | ucon1 | ufcon0 | ufcon1 | umcon0 | umcon1 | utrstat0 | utrstat1 | uerstat0
  | uerstat1 | ufstat0 | ufstat1 | umstat0 | umstat1 | utxh0 | utxh1 | urxh0 | urxh1 | ubrdiv0 | ubrdiv1
  -- SIO (R73)
  | siocon | siodat | sbrdr | itvcnt | dcntz
  -- IIS (R74)
  | iiscon | iismod | iispsr | iisfifcon | iisfif
  -- I/O ports (R75)
  | pcona | pdata | pconb | pdatb | pconc | pdatc | pupc | pcond | pdatd | pupd | pcone | pdate | pupe
  | pconf | pdatf | pupf | pcong | pdatg | pupg | spucr | extint | extinpnd
  -- Watchdog timer (R76)
  | wtcon | wtdat | wtcnt
  -- A/D converter (R77)
  | adccon | adcpsr | adcdat
  -- PWM timer (R78)
  | tcfg0 | tcfg1 | tcon | tcntb0 | tcmpb0 | tcnto0 | tcntb1 | tcmpb1 | tcnto1 | tcntb2 | tcmpb2 | tcnto2
  | tcntb3 | tcmpb3 | tcnto3 | tcntb4 | tcmpb4 | tcnto4 | tcntb5 | tcnto5
  -- IIC (R79)
  | iiccon | iicstat | iicadd | iicds
  -- RTC (R80)
  | rtccon | rtcalm | almsec | almmin | almhour | almday | almmon | almyear | rtcrst | bcdsec | bcdmin
  | bcdhour | bcdday | bcddate | bcdmon | bcdyear | ticint
  -- Clock and power management (R81)
  | pllcon | clkcon | clkslow | locktime
  -- Interrupt controller (R82)
  | intcon | intpnd | intmod | intmsk | i_pslv | i_pmst | i_cslv | i_cmst | i_ispr | i_ispc | f_ispr | f_ispc
  -- LCD controller (R83)
  | lcdcon1 | lcdcon2 | lcdcon3 | lcdsaddr1 | lcdsaddr2 | lcdsaddr3 | redlut | greenlut | bluelut | dp1_2
  | dp4_7 | dp3_5 | dp2_3 | dp5_7 | dp3_4 | dp4_5 | dp6_7 | dithmode
  -- DMA (R84)
  | zdcon0 | zdisrc0 | zdides0 | zdicnt0 | zdcsrc0 | zdcdes0 | zdccnt0 | zdcon1 | zdisrc1 | zdides1 | zdicnt1
  | zdcsrc1 | zdcdes1 | zdccnt1 | bdcon0 | bdisrc0 | bdides0 | bdicnt0 | bdcsrc0 | bdcdes0 | bdccnt0 | bdcon1
  | bdisrc1 | bdides1 | bdicnt1 | bdcsrc1 | bdcdes1 | bdccnt1
  deriving DecidableEq, Repr

/-- One legal access to a special register, as handed to the device oracle (10_state.md R86). -/
inductive SfrEvent where
  | read (name : SfrName) (size : Size)
  | write (name : SfrName) (size : Size) (value : Word)
  deriving DecidableEq, Repr

/-- Memory: (address, byte) pairs, addresses strictly rising, no entry equal to what an unlisted address reads as
(`Memory.wf` in Machine/Ops.lean). -/
abbrev Memory := List Host.Cell

/-! ### Reasons to stop -/

/-- The faults of the model. -/
inductive Fault where
  /-- CPSR.M holds none of the seven legal values: "an unrecoverable state" (10_state.md R49, decision D15). Raised at
  the instruction boundary of every step in that state, until a reset. Safe: the manual gives no behaviour. -/
  | illegalMode
  /-- An access, or an instruction fetch, at an address that is neither mapped memory nor the special-register window
  (20_memory.md R126). `address` is the first such byte. Raised by fetches, loads and stores. Safe. -/
  | unmappedAddress (address : Nat)
  deriving DecidableEq, Repr

/-- The refusals of the model: the `refuse(...)` of the spec (93_implementation_defined.md), under names of its own.
Every one is safe: the model claims nothing where the manual says "must not", "should not" or "unpredictable". -/
inductive Refusal where
  /-- No meaning in the model yet; raised by an arm of `exec` only. Safe. -/
  | notModelled (mnemonic : String)
  /-- The fetched word is no instruction (U1, U2, U13, U26). Raised by a step after the fetch. Safe. -/
  | undecodable (e : DecodeError)
  /-- A step with CPSR.T = 1: the THUMB instruction set is in no source (R477, D13). Safe. -/
  | thumbState
  /-- Sequential advance from 0xFFFFFFFC (U42, D4). Raised by any instruction that advances. Safe. -/
  | pcWrap
  /-- A PC with bits 1:0 not zero in ARM state (U41, D3). Raised by writes of the PC and by a fetch. Safe. -/
  | unalignedPc
  /-- BX R15 (U3). Safe. -/
  | bxR15
  /-- An MSR that would change CPSR.T (U4, R306). Safe. -/
  | tBitChange
  /-- An SPSR named in User or System mode (U6, U10, U32, D29). Raised by MRS, MSR, data processing with S and
  Rd = R15, LDM with S and R15. Safe. -/
  | noSpsr
  /-- A register-specified shift amount with Rs = R15 (U9). Raised by data processing. Safe. -/
  | shiftAmountR15
  /-- TST, TEQ, CMP or CMN with Rd = R15 (U11, D24). Safe. -/
  | teqpForm
  /-- MRS or MSR naming R15 (U12). Safe. -/
  | psrR15
  /-- MUL or MLA naming R15 (U15). Safe. -/
  | multiplyR15
  /-- MUL or MLA with Rd = Rm (U14). Safe. -/
  | multiplyRdRm
  /-- A long multiply naming R15 (U18). Safe. -/
  | longR15
  /-- A long multiply with RdHi, RdLo, Rm not all different (U19). Safe. -/
  | longNotDistinct
  /-- A single transfer with Rm = R15 as the offset (U22, U30). Safe. -/
  | offsetR15
  /-- A single transfer with write-back to R15 (U21, U29). Safe. -/
  | writeBackR15
  /-- A post-indexed single transfer with Rm = Rn (U23, D7). Safe. -/
  | postIndexedRmRn
  /-- A single transfer with write-back and Rd = Rn (U40, D22). Safe. -/
  | writeBackRdRn
  /-- A halfword or signed transfer, post-indexed, with W = 1 (U25). Safe. -/
  | halfwordPostW
  /-- STRH at an odd address (U28). Safe. -/
  | strhOdd
  /-- With MISALIGNED_WORD = refuse, a word store, swap or block transfer at an unaligned address (U24, U36). Safe. -/
  | unalignedWord
  /-- LDM or STM with an empty list (U31). Safe. -/
  | emptyList
  /-- LDM or STM with Rn = R15 (U35). Safe. -/
  | baseR15
  /-- LDM or STM with S = 1 in User mode (U32, R404). Safe. -/
  | sBitUser
  /-- A user-bank LDM or STM with write-back (U33). Safe. -/
  | userBankWriteBack
  /-- A banked register read by the instruction after a user-bank LDM (U34, R621). Raised before `exec`. Safe. -/
  | bankedRead
  /-- SWP or SWPB naming R15 (U37). Safe. -/
  | swapR15
  /-- A store into the two prefetched words (U43, R141). Raised by every storing instruction. Safe. -/
  | prefetchStore
  /-- A special-register access with the wrong unit, address or direction, at an unlisted address of the window, or
  by an instruction fetch (U44, R86). Safe. -/
  | sfrAccess
  /-- A store to ROM that refuses writes (R126). Safe. -/
  | romWrite
  deriving DecidableEq, Repr

/-! ### The state -/

/-- The state of the machine (INVENTORY.md, "State"). -/
structure State where
  /-- The thirty physical general registers, at the index `PhysReg.idx` (R30, R33). -/
  regs : Vector Word 30
  /-- The program counter: the address of the next instruction, `ia` while it executes (R40, R41). -/
  pc : Word
  /-- The current program status register (R45). -/
  cpsr : PSR
  /-- SPSR_fiq (R51). -/
  spsrFiq : PSR
  /-- SPSR_irq (R51). -/
  spsrIrq : PSR
  /-- SPSR_svc (R51). -/
  spsrSvc : PSR
  /-- SPSR_abt (R51). -/
  spsrAbt : PSR
  /-- SPSR_und (R51). -/
  spsrUnd : PSR
  /-- The one address space of bytes (R100). -/
  mem : Memory
  /-- BIGEND, latched from pin ENDIAN at reset (R102, R601). -/
  bigend : Bool
  /-- OM[3:0], latched at reset; of no effect (R6, R601). -/
  om : BitVec 4
  /-- LaunchMemory: where ordinary memory is (R126). The first region that holds an address decides. -/
  map : List Region
  /-- MISALIGNED_WORD (R111). -/
  misaligned : MisalignedWord
  /-- AbortOracle: exactly these accesses abort (R127, D10). -/
  aborts : List Access
  /-- The inputs at the coming instruction boundaries, the next one first; past the end nothing is asserted (R533). -/
  inputs : List Boundary
  /-- The legal special-register accesses so far, oldest first (R86, R134, R606). -/
  sfrLog : List SfrEvent
  /-- A user-bank LDM was the last instruction (R621). -/
  bankHazard : Bool
  /-- The model's own: how many free values have been drawn (notes/assumptions/8.md). -/
  draws : Nat
  deriving DecidableEq, Repr

/-- The outcome of an instruction or of a step. -/
abbrev Outcome := Host.Outcome State Fault Refusal

/-- The outcome of one data access: done with a value and the state after it (a special-register read changes the
event log), aborted by the memory system, or a stop. -/
inductive MemResult (α : Type) where
  | done (a : α) (s : State)
  | aborted
  | fault (r : Fault)
  | refused (r : Refusal)
  deriving DecidableEq, Repr

/-- A PSR of all zeros; DESIGN CHOICE as a reset value (notes/assumptions/1.md). -/
def PSR.zero : PSR := ⟨false, false, false, false, false, false, false, 0b00000#5⟩

/-- The CPSR after reset (10_state.md R65): Supervisor mode, I and F set, T clear. N, Z, C, V are DESIGN CHOICE zero
(R66, notes/assumptions/1.md). -/
def PSR.atReset : PSR := ⟨false, false, false, false, true, true, false, 0b10011#5⟩

/-- The machine right after reset (10_state.md R65, R66, 70_reset_and_hazards.md R601). The PC and the CPSR's M, I, F
and T are the spec's; every register the spec gives no value is DESIGN CHOICE zero (notes/assumptions/1.md); the pins
are DESIGN CHOICE little endian and 0000 (log 3), the memory map the whole address space (log 4). -/
def State.reset : State where
  regs := Vector.replicate 30 0#32
  pc := 0x00000000#32
  cpsr := PSR.atReset
  spsrFiq := PSR.zero
  spsrIrq := PSR.zero
  spsrSvc := PSR.zero
  spsrAbt := PSR.zero
  spsrUnd := PSR.zero
  mem := []
  bigend := false
  om := 0b0000#4
  map := [⟨0, 0x100000000, .ram⟩]
  misaligned := .align
  aborts := []
  inputs := []
  sfrLog := []
  bankHazard := false
  draws := 0

end Sys2Proof.Machine
end

