-- ==== Sys2Proof/Machine/Ops.lean ====
section
/-! DEFINITION. The named operations over registers, status registers, memory and exceptions. Every meaning is
written over these. -/

namespace Sys2Proof.Machine

/-! ### Modes (10_state.md R49) -/

/-- The code of a mode. -/
def Mode.bits : Mode → BitVec 5
  | .usr => 0b10000#5 | .fiq => 0b10001#5 | .irq => 0b10010#5 | .svc => 0b10011#5
  | .abt => 0b10111#5 | .und => 0b11011#5 | .sys => 0b11111#5

/-- The mode of M[4:0]; none for the 25 illegal values. -/
def Mode.ofBits (m : BitVec 5) : Option Mode :=
  if m = 0b10000#5 then some .usr
  else if m = 0b10001#5 then some .fiq
  else if m = 0b10010#5 then some .irq
  else if m = 0b10011#5 then some .svc
  else if m = 0b10111#5 then some .abt
  else if m = 0b11011#5 then some .und
  else if m = 0b11111#5 then some .sys
  else none

/-- The current mode, if CPSR.M is legal. -/
def State.mode (s : State) : Option Mode :=
  Mode.ofBits s.cpsr.m

/-- `Privileged()` of 00_scope.md R9: any mode but User. -/
def State.privileged (s : State) : Bool :=
  s.cpsr.m != 0b10000#5

/-! ### General registers (10_state.md R30, R33) -/

/-- The place of a physical register in the register file. -/
def PhysReg.idx : PhysReg → Fin 30
  | .r0 => 0 | .r1 => 1 | .r2 => 2 | .r3 => 3 | .r4 => 4 | .r5 => 5 | .r6 => 6 | .r7 => 7
  | .r8 => 8 | .r9 => 9 | .r10 => 10 | .r11 => 11 | .r12 => 12 | .r13 => 13 | .r14 => 14
  | .r8fiq => 15 | .r9fiq => 16 | .r10fiq => 17 | .r11fiq => 18 | .r12fiq => 19 | .r13fiq => 20 | .r14fiq => 21
  | .r13irq => 22 | .r14irq => 23 | .r13svc => 24 | .r14svc => 25 | .r13abt => 26 | .r14abt => 27
  | .r13und => 28 | .r14und => 29

/-- Read a physical register. -/
def State.gpr (s : State) (p : PhysReg) : Word :=
  s.regs[p.idx]

/-- Write a physical register. -/
def State.setGpr (s : State) (p : PhysReg) (v : Word) : State :=
  { s with regs := s.regs.set p.idx v }

/-- The User and System bank: the physical registers of R0 to R14, in order. -/
def userRegs : List PhysReg :=
  [.r0, .r1, .r2, .r3, .r4, .r5, .r6, .r7, .r8, .r9, .r10, .r11, .r12, .r13, .r14]

/-- The physical registers that R0 to R14 name in each mode, in order (R33). An illegal mode, in which no instruction
runs, is given the User bank (notes/assumptions/16.md). -/
def bankRegs (m : Option Mode) : List PhysReg :=
  match m with
  | some .fiq =>
    [.r0, .r1, .r2, .r3, .r4, .r5, .r6, .r7, .r8fiq, .r9fiq, .r10fiq, .r11fiq, .r12fiq, .r13fiq, .r14fiq]
  | some .irq => [.r0, .r1, .r2, .r3, .r4, .r5, .r6, .r7, .r8, .r9, .r10, .r11, .r12, .r13irq, .r14irq]
  | some .svc => [.r0, .r1, .r2, .r3, .r4, .r5, .r6, .r7, .r8, .r9, .r10, .r11, .r12, .r13svc, .r14svc]
  | some .abt => [.r0, .r1, .r2, .r3, .r4, .r5, .r6, .r7, .r8, .r9, .r10, .r11, .r12, .r13abt, .r14abt]
  | some .und => [.r0, .r1, .r2, .r3, .r4, .r5, .r6, .r7, .r8, .r9, .r10, .r11, .r12, .r13und, .r14und]
  | some .usr => userRegs
  | some .sys => userRegs
  | none => userRegs

/-- The physical register that register number `i` names under mode bits `m`; none for R15, the program counter. -/
def bank (m : BitVec 5) (i : Reg) : Option PhysReg :=
  (bankRegs (Mode.ofBits m))[i.toNat]?

/-- The physical register that register number `i` names in the User bank; none for R15. -/
def userBank (i : Reg) : Option PhysReg :=
  userRegs[i.toNat]?

/-- Read register `i` in the current mode; R15 reads as the instruction's address plus `ahead` (10_state.md R41). -/
def State.readReg (s : State) (ahead : Word) (i : Reg) : Word :=
  match bank s.cpsr.m i with
  | some p => s.gpr p
  | none => s.pc + ahead

/-- Write register `i` in the current mode. R15 is never written here: its writes go through `writePc`. -/
def State.setReg (s : State) (i : Reg) (v : Word) : State :=
  match bank s.cpsr.m i with
  | some p => s.setGpr p v
  | none => s

/-- `xu[i]` of 00_scope.md R9: register `i` of the User bank; R15 reads as the instruction's address plus 12, as a
stored R15 does (45_block_data_transfer.md R409). -/
def State.readUserReg (s : State) (i : Reg) : Word :=
  match userBank i with
  | some p => s.gpr p
  | none => s.pc + 12#32

/-- `xu[i] <- v` of 00_scope.md R9. -/
def State.setUserReg (s : State) (i : Reg) (v : Word) : State :=
  match userBank i with
  | some p => s.setGpr p v
  | none => s

/-- Whether register number `i` is banked under mode bits `m`: it names another register than in the User bank. -/
def isBanked (m : BitVec 5) (i : Reg) : Bool :=
  bank m i != userBank i

/-! ### Status registers (10_state.md R45, R51) -/

/-- The SPSR of a mode; none in User and System mode (R51). -/
def State.spsrOf (s : State) (m : Mode) : Option PSR :=
  match m with
  | .fiq => some s.spsrFiq
  | .irq => some s.spsrIrq
  | .svc => some s.spsrSvc
  | .abt => some s.spsrAbt
  | .und => some s.spsrUnd
  | .usr => none
  | .sys => none

/-- Write the SPSR of a mode; nothing in User and System mode, which have none (R51). -/
def State.setSpsrOf (s : State) (m : Mode) (p : PSR) : State :=
  match m with
  | .fiq => { s with spsrFiq := p }
  | .irq => { s with spsrIrq := p }
  | .svc => { s with spsrSvc := p }
  | .abt => { s with spsrAbt := p }
  | .und => { s with spsrUnd := p }
  | .usr => s
  | .sys => s

/-- The SPSR of the current mode; none in User, System and an illegal mode. -/
def State.spsr (s : State) : Option PSR :=
  s.mode.bind s.spsrOf

/-- Write the SPSR of the current mode. -/
def State.setSpsr (s : State) (p : PSR) : State :=
  match s.mode with
  | some m => s.setSpsrOf m p
  | none => s

/-- The bits of a PSR as a word, given the reserved bits 27:8 (R45, R50). -/
def PSR.toWord (p : PSR) (reserved : BitVec 20) : Word :=
  BitVec.ofBool p.n ++ BitVec.ofBool p.z ++ BitVec.ofBool p.c ++ BitVec.ofBool p.v ++ reserved
    ++ BitVec.ofBool p.i ++ BitVec.ofBool p.f ++ BitVec.ofBool p.t ++ p.m

/-- The PSR whose twelve defined bits are those of a word (R45); bits 27:8 are ignored (R50). -/
def PSR.ofWord (v : Word) : PSR where
  n := v.getLsbD 31
  z := v.getLsbD 30
  c := v.getLsbD 29
  v := v.getLsbD 28
  i := v.getLsbD 7
  f := v.getLsbD 6
  t := v.getLsbD 5
  m := v.extractLsb' 0 5

/-- A PSR with its four flags taken from bits 31:28 of a word (42_psr_transfer.md R303). -/
def PSR.withFlagsOf (p : PSR) (v : Word) : PSR :=
  { p with n := v.getLsbD 31, z := v.getLsbD 30, c := v.getLsbD 29, v := v.getLsbD 28 }

/-! ### Free values (00_scope.md R9, `draw`) -/

/-- The next free value, `w` bits wide. -/
def State.nextDraw (s : State) (w : Nat) : BitVec w :=
  Config.draw w s.draws

/-- The state after one free value has been taken. -/
def State.drawn (s : State) : State :=
  { s with draws := s.draws + 1 }

/-! ### Memory as bytes (20_memory.md R100, R103) -/

/-- What a byte that memory does not list reads as. DESIGN CHOICE 0x00 (notes/assumptions/2.md). -/
def unlistedByte : Byte := 0x00#8

/-- The byte at an address. -/
def Memory.read : Memory → Nat → Byte
  | [], _ => unlistedByte
  | (b, v) :: rest, a => if a = b then v else Memory.read rest a

/-- Put an entry for an address that has none, before the first higher address. -/
def Memory.insert : Memory → Nat → Byte → Memory
  | [], a, v => [(a, v)]
  | (b, w) :: rest, a, v => if a < b then (a, v) :: (b, w) :: rest else (b, w) :: Memory.insert rest a v

/-- Write one byte, keeping the canonical form. -/
def Memory.write (m : Memory) (a : Nat) (v : Byte) : Memory :=
  let others := m.filter (fun cell => cell.1 != a)
  if v = unlistedByte then others else Memory.insert others a v

/-- The canonical form from address `lo` on: addresses strictly rising and within 32 bits, no entry equal to what an
unlisted address reads as. -/
def Memory.wfFrom : Nat → Memory → Bool
  | _, [] => true
  | lo, (a, v) :: rest => decide (lo ≤ a) && decide (a < 2 ^ 32) && v != unlistedByte && Memory.wfFrom (a + 1) rest

/-- The canonical form of memory. -/
def Memory.wf (m : Memory) : Bool :=
  Memory.wfFrom 0 m

/-- The `n` bytes at ascending addresses from `a`. -/
def Memory.readBytes (m : Memory) : Nat → Nat → List Byte
  | _, 0 => []
  | a, n + 1 => m.read a :: m.readBytes (a + 1) n

/-- Write bytes at ascending addresses from `a`, each only where `writable` says so. -/
def Memory.writeBytes (writable : Nat → Bool) : Memory → Nat → List Byte → Memory
  | m, _, [] => m
  | m, a, b :: rest =>
    Memory.writeBytes writable (if writable a then m.write a b else m) (a + 1) rest

/-! ### The memory map (20_memory.md R126) -/

/-- Whether a region holds an address. -/
def Region.holds (r : Region) (a : Nat) : Bool :=
  decide (r.base ≤ a) && decide (a < r.base + r.size)

/-- The kind of ordinary memory at an address, if it is mapped: the first region that holds it decides. -/
def kindAt (map : List Region) (a : Nat) : Option MemKind :=
  (map.find? (fun r => r.holds a)).map (fun r => r.kind)

/-- The first of the `n` addresses from `a` that is not ordinary memory. -/
def firstUnmapped (map : List Region) : Nat → Nat → Option Nat
  | _, 0 => none
  | a, n + 1 => if (kindAt map a).isNone then some a else firstUnmapped map (a + 1) n

/-- Whether one of the `n` addresses from `a` is ROM that refuses writes. -/
def refusesWrite (map : List Region) : Nat → Nat → Bool
  | _, 0 => false
  | a, n + 1 => kindAt map a == some .romRefusing || refusesWrite map (a + 1) n

/-- The special-register window 0x01c00000 to 0x01ffffff (20_memory.md R126). -/
def inSfrWindow (a : Word) : Bool :=
  decide (0x01c00000#32 ≤ a) && decide (a < 0x02000000#32)

/-! ### Widths and alignment (20_memory.md R101, R110) -/

/-- The bytes of an access. -/
def Size.bytes : Size → Nat
  | .byte => 1
  | .half => 2
  | .word => 4

/-- The aligned address at or below an address. -/
def alignDown (size : Size) (a : Word) : Word :=
  match size with
  | .byte => a
  | .half => a &&& 0xFFFFFFFE#32
  | .word => a &&& 0xFFFFFFFC#32

/-- Whether an address is a multiple of four. -/
def wordAligned (a : Word) : Bool :=
  a.extractLsb' 0 2 == 0b00#2

/-- Whether the memory system aborts an access (20_memory.md R127). The address is the one the core issues, its low
bits included (notes/assumptions/6.md). -/
def State.abortsAccess (s : State) (kind : AccessKind) (a : Word) (size : Size) (priv : Bool) : Bool :=
  s.aborts.contains ⟨kind, a, size, priv⟩

/-- Whether one of the `n` bytes at `a` lies in the two prefetched words `ia + 4` to `ia + 11` (20_memory.md R141). -/
def overlapsPrefetch (ia a : Word) : Nat → Bool
  | 0 => false
  | n + 1 => decide (a - (ia + 4#32) < 8#32) || overlapsPrefetch ia (a + 1#32) n

/-! ### The program counter (40_branch.md R220, R221, 10_state.md R42, R43) -/

/-- Sequential advance: `pc <- ia + 4`; refused from 0xFFFFFFFC (R43). -/
def advance (s : State) : Outcome :=
  if s.pc = 0xFFFFFFFC#32 then .refused .pcWrap else .next { s with pc := s.pc + 4#32 }

/-- `pc <- t` (R221), judged in the state `s` as it is after the instruction's other effects. -/
def writePc (t : Word) (s : State) : Outcome :=
  if s.cpsr.t then .next { s with pc := t &&& 0xFFFFFFFE#32 }
  else if wordAligned t then .next { s with pc := t }
  else .refused .unalignedPc

/-! ### Taking an exception (60_exceptions.md R510, R511) -/

/-- The mode entered. -/
def ExceptionKind.mode : ExceptionKind → Mode
  | .reset => .svc | .undefined => .und | .swi => .svc | .prefetchAbort => .abt
  | .dataAbort => .abt | .irq => .irq | .fiq => .fiq

/-- The vector (R505). -/
def ExceptionKind.vector : ExceptionKind → Word
  | .reset => 0x00000000#32 | .undefined => 0x00000004#32 | .swi => 0x00000008#32
  | .prefetchAbort => 0x0000000C#32 | .dataAbort => 0x00000010#32 | .irq => 0x00000018#32 | .fiq => 0x0000001C#32

/-- Whether the entry sets F (R510, PRESUMED by the spec for FIQ, notes/assumptions/18.md). -/
def ExceptionKind.masksFiq : ExceptionKind → Bool
  | .reset => true | .fiq => true
  | .undefined => false | .swi => false | .prefetchAbort => false | .dataAbort => false | .irq => false

/-- The link register of a mode; R14 of the User bank where the mode has none of its own. -/
def Mode.linkReg : Mode → PhysReg
  | .fiq => .r14fiq | .irq => .r14irq | .svc => .r14svc | .abt => .r14abt | .und => .r14und
  | .usr => .r14 | .sys => .r14

/-- The CPSR on entry: the new mode, ARM state, I set, F set for Reset and FIQ, the flags kept (R511). -/
def ExceptionKind.enteredCpsr (k : ExceptionKind) (old : PSR) : PSR :=
  { old with m := k.mode.bits, t := false, i := true, f := old.f || k.masksFiq }

/-- Take an exception with a link value (R511): R14 and SPSR of the mode entered are written, the CPSR changes and the
PC goes to the vector. The user-bank LDM hazard is discharged (70_reset_and_hazards.md R621). -/
def enterException (k : ExceptionKind) (link : Word) (s : State) : State :=
  { (s.setGpr k.mode.linkReg link).setSpsrOf k.mode s.cpsr with
    cpsr := k.enteredCpsr s.cpsr, pc := k.vector, bankHazard := false }

/-- Return from an exception: the SPSR of the current mode is moved to the CPSR and `t` to the PC, together
(60_exceptions.md R520). Refused where the mode has no SPSR (D29). -/
def exceptionReturn (t : Word) (s : State) : Outcome :=
  match s.spsr with
  | none => .refused .noSpsr
  | some p => writePc t { s with cpsr := p }

/-- Data abort entry of the instruction at the PC: the link value is `ia + 8` (60_exceptions.md R515). -/
def dataAbort (s : State) : Outcome :=
  .next (enterException .dataAbort (s.pc + 8#32) s)

/-- Undefined instruction entry of the instruction at the PC: the link value is `ia + 4` (60_exceptions.md R513). -/
def undefinedTrap (s : State) : Outcome :=
  .next (enterException .undefined (s.pc + 4#32) s)

/-- Software interrupt entry of the instruction at the PC: the link value is `ia + 4` (60_exceptions.md R514). -/
def swiTrap (s : State) : Outcome :=
  .next (enterException .swi (s.pc + 4#32) s)

end Sys2Proof.Machine
end

