-- ==== Sys2Proof/Machine/Sfr.lean ====
section
/-! DEFINITION. The special registers of Table 1-4 (10_state.md R69 to R88): names, addresses, units, directions, and
what an access to one does. -/

namespace Sys2Proof.Machine

/-- One way to access a special register: its unit, its address in big endian and in little endian, its directions. -/
structure SfrRow where
  name : SfrName
  unit : Size
  big : Word
  little : Word
  readable : Bool
  writable : Bool
  deriving DecidableEq, Repr

/-- CPU wrapper (10_state.md R70). -/
def sfrRows70 : List SfrRow :=
  [⟨.syscfg, .word, 0x01c00000#32, 0x01c00000#32, true, true⟩,
   ⟨.ncachbe0, .word, 0x01c00004#32, 0x01c00004#32, true, true⟩,
   ⟨.ncachbe1, .word, 0x01c00008#32, 0x01c00008#32, true, true⟩,
   ⟨.sbuscon, .word, 0x01c40000#32, 0x01c40000#32, true, true⟩]

/-- Memory controller (10_state.md R71). -/
def sfrRows71 : List SfrRow :=
  [⟨.bwscon, .word, 0x01c80000#32, 0x01c80000#32, true, true⟩,
   ⟨.bankcon0, .word, 0x01c80004#32, 0x01c80004#32, true, true⟩,
   ⟨.bankcon1, .word, 0x01c80008#32, 0x01c80008#32, true, true⟩,
   ⟨.bankcon2, .word, 0x01c8000c#32, 0x01c8000c#32, true, true⟩,
   ⟨.bankcon3, .word, 0x01c80010#32, 0x01c80010#32, true, true⟩,
   ⟨.bankcon4, .word, 0x01c80014#32, 0x01c80014#32, true, true⟩,
   ⟨.bankcon5, .word, 0x01c80018#32, 0x01c80018#32, true, true⟩,
   ⟨.bankcon6, .word, 0x01c8001c#32, 0x01c8001c#32, true, true⟩,
   ⟨.bankcon7, .word, 0x01c80020#32, 0x01c80020#32, true, true⟩,
   ⟨.refresh, .word, 0x01c80024#32, 0x01c80024#32, true, true⟩,
   ⟨.banksize, .word, 0x01c80028#32, 0x01c80028#32, true, true⟩,
   ⟨.mrsrb6, .word, 0x01c8002c#32, 0x01c8002c#32, true, true⟩,
   ⟨.mrsrb7, .word, 0x01c80030#32, 0x01c80030#32, true, true⟩]

/-- UART (10_state.md R72). -/
def sfrRows72 : List SfrRow :=
  [⟨.ulcon0, .word, 0x01d00000#32, 0x01d00000#32, true, true⟩,
   ⟨.ulcon1, .word, 0x01d04000#32, 0x01d04000#32, true, true⟩,
   ⟨.ucon0, .word, 0x01d00004#32, 0x01d00004#32, true, true⟩,
   ⟨.ucon1, .word, 0x01d04004#32, 0x01d04004#32, true, true⟩,
   ⟨.ufcon0, .word, 0x01d00008#32, 0x01d00008#32, true, true⟩,
   ⟨.ufcon1, .word, 0x01d04008#32, 0x01d04008#32, true, true⟩,
   ⟨.umcon0, .word, 0x01d0000c#32, 0x01d0000c#32, true, true⟩,
   ⟨.umcon1, .word, 0x01d0400c#32, 0x01d0400c#32, true, true⟩,
   ⟨.utrstat0, .word, 0x01d00010#32, 0x01d00010#32, true, false⟩,
   ⟨.utrstat1, .word, 0x01d04010#32, 0x01d04010#32, true, false⟩,
   ⟨.uerstat0, .word, 0x01d00014#32, 0x01d00014#32, true, false⟩,
   ⟨.uerstat1, .word, 0x01d04014#32, 0x01d04014#32, true, false⟩,
   ⟨.ufstat0, .word, 0x01d00018#32, 0x01d00018#32, true, false⟩,
   ⟨.ufstat1, .word, 0x01d04018#32, 0x01d04018#32, true, false⟩,
   ⟨.umstat0, .word, 0x01d0001c#32, 0x01d0001c#32, true, false⟩,
   ⟨.umstat1, .word, 0x01d0401c#32, 0x01d0401c#32, true, false⟩,
   ⟨.utxh0, .byte, 0x01d00023#32, 0x01d00020#32, false, true⟩,
   ⟨.utxh1, .byte, 0x01d04023#32, 0x01d04020#32, false, true⟩,
   ⟨.urxh0, .byte, 0x01d00027#32, 0x01d00024#32, true, false⟩,
   ⟨.urxh1, .byte, 0x01d04027#32, 0x01d04024#32, true, false⟩,
   ⟨.ubrdiv0, .word, 0x01d00028#32, 0x01d00028#32, true, true⟩,
   ⟨.ubrdiv1, .word, 0x01d04028#32, 0x01d04028#32, true, true⟩]

/-- SIO (10_state.md R73). -/
def sfrRows73 : List SfrRow :=
  [⟨.siocon, .word, 0x01d14000#32, 0x01d14000#32, true, true⟩,
   ⟨.siodat, .word, 0x01d14004#32, 0x01d14004#32, true, true⟩,
   ⟨.sbrdr, .word, 0x01d14008#32, 0x01d14008#32, true, true⟩,
   ⟨.itvcnt, .word, 0x01d1400c#32, 0x01d1400c#32, true, true⟩,
   ⟨.dcntz, .word, 0x01d14010#32, 0x01d14010#32, true, true⟩]

/-- IIS (10_state.md R74). -/
def sfrRows74 : List SfrRow :=
  [⟨.iiscon, .word, 0x01d18000#32, 0x01d18000#32, true, true⟩,
   ⟨.iiscon, .half, 0x01d18002#32, 0x01d18000#32, true, true⟩,
   ⟨.iiscon, .byte, 0x01d18003#32, 0x01d18000#32, true, true⟩,
   ⟨.iismod, .word, 0x01d18004#32, 0x01d18004#32, true, true⟩,
   ⟨.iismod, .half, 0x01d18006#32, 0x01d18004#32, true, true⟩,
   ⟨.iispsr, .word, 0x01d18008#32, 0x01d18008#32, true, true⟩,
   ⟨.iispsr, .half, 0x01d1800a#32, 0x01d18008#32, true, true⟩,
   ⟨.iispsr, .byte, 0x01d1800b#32, 0x01d18008#32, true, true⟩,
   ⟨.iisfifcon, .word, 0x01d1800c#32, 0x01d1800c#32, true, true⟩,
   ⟨.iisfifcon, .half, 0x01d1800e#32, 0x01d1800c#32, true, true⟩,
   ⟨.iisfif, .half, 0x01d18012#32, 0x01d18010#32, true, true⟩]

/-- I/O ports (10_state.md R75). -/
def sfrRows75 : List SfrRow :=
  [⟨.pcona, .word, 0x01d20000#32, 0x01d20000#32, true, true⟩,
   ⟨.pdata, .word, 0x01d20004#32, 0x01d20004#32, true, true⟩,
   ⟨.pconb, .word, 0x01d20008#32, 0x01d20008#32, true, true⟩,
   ⟨.pdatb, .word, 0x01d2000c#32, 0x01d2000c#32, true, true⟩,
   ⟨.pconc, .word, 0x01d20010#32, 0x01d20010#32, true, true⟩,
   ⟨.pdatc, .word, 0x01d20014#32, 0x01d20014#32, true, true⟩,
   ⟨.pupc, .word, 0x01d20018#32, 0x01d20018#32, true, true⟩,
   ⟨.pcond, .word, 0x01d2001c#32, 0x01d2001c#32, true, true⟩,
   ⟨.pdatd, .word, 0x01d20020#32, 0x01d20020#32, true, true⟩,
   ⟨.pupd, .word, 0x01d20024#32, 0x01d20024#32, true, true⟩,
   ⟨.pcone, .word, 0x01d20028#32, 0x01d20028#32, true, true⟩,
   ⟨.pdate, .word, 0x01d2002c#32, 0x01d2002c#32, true, true⟩,
   ⟨.pupe, .word, 0x01d20030#32, 0x01d20030#32, true, true⟩,
   ⟨.pconf, .word, 0x01d20034#32, 0x01d20034#32, true, true⟩,
   ⟨.pdatf, .word, 0x01d20038#32, 0x01d20038#32, true, true⟩,
   ⟨.pupf, .word, 0x01d2003c#32, 0x01d2003c#32, true, true⟩,
   ⟨.pcong, .word, 0x01d20040#32, 0x01d20040#32, true, true⟩,
   ⟨.pdatg, .word, 0x01d20044#32, 0x01d20044#32, true, true⟩,
   ⟨.pupg, .word, 0x01d20048#32, 0x01d20048#32, true, true⟩,
   ⟨.spucr, .word, 0x01d2004c#32, 0x01d2004c#32, true, true⟩,
   ⟨.extint, .word, 0x01d20050#32, 0x01d20050#32, true, true⟩,
   ⟨.extinpnd, .word, 0x01d20054#32, 0x01d20054#32, true, true⟩]

/-- Watchdog timer (10_state.md R76). -/
def sfrRows76 : List SfrRow :=
  [⟨.wtcon, .word, 0x01d30000#32, 0x01d30000#32, true, true⟩,
   ⟨.wtdat, .word, 0x01d30004#32, 0x01d30004#32, true, true⟩,
   ⟨.wtcnt, .word, 0x01d30008#32, 0x01d30008#32, true, true⟩]

/-- A/D converter (10_state.md R77). -/
def sfrRows77 : List SfrRow :=
  [⟨.adccon, .word, 0x01d40000#32, 0x01d40000#32, true, true⟩,
   ⟨.adccon, .half, 0x01d40002#32, 0x01d40000#32, true, true⟩,
   ⟨.adccon, .byte, 0x01d40003#32, 0x01d40000#32, true, true⟩,
   ⟨.adcpsr, .word, 0x01d40004#32, 0x01d40004#32, true, true⟩,
   ⟨.adcpsr, .half, 0x01d40006#32, 0x01d40004#32, true, true⟩,
   ⟨.adcpsr, .byte, 0x01d40007#32, 0x01d40004#32, true, true⟩,
   ⟨.adcdat, .word, 0x01d40008#32, 0x01d40008#32, true, false⟩,
   ⟨.adcdat, .half, 0x01d4000a#32, 0x01d40008#32, true, false⟩]

/-- PWM timer (10_state.md R78). -/
def sfrRows78 : List SfrRow :=
  [⟨.tcfg0, .word, 0x01d50000#32, 0x01d50000#32, true, true⟩,
   ⟨.tcfg1, .word, 0x01d50004#32, 0x01d50004#32, true, true⟩,
   ⟨.tcon, .word, 0x01d50008#32, 0x01d50008#32, true, true⟩,
   ⟨.tcntb0, .word, 0x01d5000c#32, 0x01d5000c#32, true, true⟩,
   ⟨.tcmpb0, .word, 0x01d50010#32, 0x01d50010#32, true, true⟩,
   ⟨.tcnto0, .word, 0x01d50014#32, 0x01d50014#32, true, false⟩,
   ⟨.tcntb1, .word, 0x01d50018#32, 0x01d50018#32, true, true⟩,
   ⟨.tcmpb1, .word, 0x01d5001c#32, 0x01d5001c#32, true, true⟩,
   ⟨.tcnto1, .word, 0x01d50020#32, 0x01d50020#32, true, false⟩,
   ⟨.tcntb2, .word, 0x01d50024#32, 0x01d50024#32, true, true⟩,
   ⟨.tcmpb2, .word, 0x01d50028#32, 0x01d50028#32, true, true⟩,
   ⟨.tcnto2, .word, 0x01d5002c#32, 0x01d5002c#32, true, false⟩,
   ⟨.tcntb3, .word, 0x01d50030#32, 0x01d50030#32, true, true⟩,
   ⟨.tcmpb3, .word, 0x01d50034#32, 0x01d50034#32, true, true⟩,
   ⟨.tcnto3, .word, 0x01d50038#32, 0x01d50038#32, true, false⟩,
   ⟨.tcntb4, .word, 0x01d5003c#32, 0x01d5003c#32, true, true⟩,
   ⟨.tcmpb4, .word, 0x01d50040#32, 0x01d50040#32, true, true⟩,
   ⟨.tcnto4, .word, 0x01d50044#32, 0x01d50044#32, true, false⟩,
   ⟨.tcntb5, .word, 0x01d50048#32, 0x01d50048#32, true, true⟩,
   ⟨.tcnto5, .word, 0x01d5004c#32, 0x01d5004c#32, true, false⟩]

/-- IIC (10_state.md R79). -/
def sfrRows79 : List SfrRow :=
  [⟨.iiccon, .word, 0x01d60000#32, 0x01d60000#32, true, true⟩,
   ⟨.iicstat, .word, 0x01d60004#32, 0x01d60004#32, true, true⟩,
   ⟨.iicadd, .word, 0x01d60008#32, 0x01d60008#32, true, true⟩,
   ⟨.iicds, .word, 0x01d6000c#32, 0x01d6000c#32, true, true⟩]

/-- RTC (10_state.md R80). The big-endian address of TICINT is the one printed (90_conflicts.md C14, notes/assumptions/12.md). -/
def sfrRows80 : List SfrRow :=
  [⟨.rtccon, .byte, 0x01d70043#32, 0x01d70040#32, true, true⟩,
   ⟨.rtcalm, .byte, 0x01d70053#32, 0x01d70050#32, true, true⟩,
   ⟨.almsec, .byte, 0x01d70057#32, 0x01d70054#32, true, true⟩,
   ⟨.almmin, .byte, 0x01d7005b#32, 0x01d70058#32, true, true⟩,
   ⟨.almhour, .byte, 0x01d7005f#32, 0x01d7005c#32, true, true⟩,
   ⟨.almday, .byte, 0x01d70063#32, 0x01d70060#32, true, true⟩,
   ⟨.almmon, .byte, 0x01d70067#32, 0x01d70064#32, true, true⟩,
   ⟨.almyear, .byte, 0x01d7006b#32, 0x01d70068#32, true, true⟩,
   ⟨.rtcrst, .byte, 0x01d7006f#32, 0x01d7006c#32, true, true⟩,
   ⟨.bcdsec, .byte, 0x01d70073#32, 0x01d70070#32, true, true⟩,
   ⟨.bcdmin, .byte, 0x01d70077#32, 0x01d70074#32, true, true⟩,
   ⟨.bcdhour, .byte, 0x01d7007b#32, 0x01d70078#32, true, true⟩,
   ⟨.bcdday, .byte, 0x01d7007f#32, 0x01d7007c#32, true, true⟩,
   ⟨.bcddate, .byte, 0x01d70083#32, 0x01d70080#32, true, true⟩,
   ⟨.bcdmon, .byte, 0x01d70087#32, 0x01d70084#32, true, true⟩,
   ⟨.bcdyear, .byte, 0x01d7008b#32, 0x01d70088#32, true, true⟩,
   ⟨.ticint, .byte, 0x01d7008e#32, 0x01d7008c#32, true, true⟩]

/-- Clock and power management (10_state.md R81). -/
def sfrRows81 : List SfrRow :=
  [⟨.pllcon, .word, 0x01d80000#32, 0x01d80000#32, true, true⟩,
   ⟨.clkcon, .word, 0x01d80004#32, 0x01d80004#32, true, true⟩,
   ⟨.clkslow, .word, 0x01d80008#32, 0x01d80008#32, true, true⟩,
   ⟨.locktime, .word, 0x01d8000c#32, 0x01d8000c#32, true, true⟩]

/-- Interrupt controller (10_state.md R82). -/
def sfrRows82 : List SfrRow :=
  [⟨.intcon, .word, 0x01e00000#32, 0x01e00000#32, true, true⟩,
   ⟨.intpnd, .word, 0x01e00004#32, 0x01e00004#32, true, false⟩,
   ⟨.intmod, .word, 0x01e00008#32, 0x01e00008#32, true, true⟩,
   ⟨.intmsk, .word, 0x01e0000c#32, 0x01e0000c#32, true, true⟩,
   ⟨.i_pslv, .word, 0x01e00010#32, 0x01e00010#32, true, true⟩,
   ⟨.i_pmst, .word, 0x01e00014#32, 0x01e00014#32, true, true⟩,
   ⟨.i_cslv, .word, 0x01e00018#32, 0x01e00018#32, true, false⟩,
   ⟨.i_cmst, .word, 0x01e0001c#32, 0x01e0001c#32, true, false⟩,
   ⟨.i_ispr, .word, 0x01e00020#32, 0x01e00020#32, true, false⟩,
   ⟨.i_ispc, .word, 0x01e00024#32, 0x01e00024#32, false, true⟩,
   ⟨.f_ispr, .word, 0x01e00038#32, 0x01e00038#32, true, false⟩,
   ⟨.f_ispc, .word, 0x01e0003c#32, 0x01e0003c#32, false, true⟩]

/-- LCD controller (10_state.md R83). -/
def sfrRows83 : List SfrRow :=
  [⟨.lcdcon1, .word, 0x01f00000#32, 0x01f00000#32, true, true⟩,
   ⟨.lcdcon2, .word, 0x01f00004#32, 0x01f00004#32, true, true⟩,
   ⟨.lcdcon3, .word, 0x01f00040#32, 0x01f00040#32, true, true⟩,
   ⟨.lcdsaddr1, .word, 0x01f00008#32, 0x01f00008#32, true, true⟩,
   ⟨.lcdsaddr2, .word, 0x01f0000c#32, 0x01f0000c#32, true, true⟩,
   ⟨.lcdsaddr3, .word, 0x01f00010#32, 0x01f00010#32, true, true⟩,
   ⟨.redlut, .word, 0x01f00014#32, 0x01f00014#32, true, true⟩,
   ⟨.greenlut, .word, 0x01f00018#32, 0x01f00018#32, true, true⟩,
   ⟨.bluelut, .word, 0x01f0001c#32, 0x01f0001c#32, true, true⟩,
   ⟨.dp1_2, .word, 0x01f00020#32, 0x01f00020#32, true, true⟩,
   ⟨.dp4_7, .word, 0x01f00024#32, 0x01f00024#32, true, true⟩,
   ⟨.dp3_5, .word, 0x01f00028#32, 0x01f00028#32, true, true⟩,
   ⟨.dp2_3, .word, 0x01f0002c#32, 0x01f0002c#32, true, true⟩,
   ⟨.dp5_7, .word, 0x01f00030#32, 0x01f00030#32, true, true⟩,
   ⟨.dp3_4, .word, 0x01f00034#32, 0x01f00034#32, true, true⟩,
   ⟨.dp4_5, .word, 0x01f00038#32, 0x01f00038#32, true, true⟩,
   ⟨.dp6_7, .word, 0x01f0003c#32, 0x01f0003c#32, true, true⟩,
   ⟨.dithmode, .word, 0x01f00044#32, 0x01f00044#32, true, true⟩]

/-- DMA (10_state.md R84). -/
def sfrRows84 : List SfrRow :=
  [⟨.zdcon0, .word, 0x01e80000#32, 0x01e80000#32, true, true⟩,
   ⟨.zdisrc0, .word, 0x01e80004#32, 0x01e80004#32, true, true⟩,
   ⟨.zdides0, .word, 0x01e80008#32, 0x01e80008#32, true, true⟩,
   ⟨.zdicnt0, .word, 0x01e8000c#32, 0x01e8000c#32, true, true⟩,
   ⟨.zdcsrc0, .word, 0x01e80010#32, 0x01e80010#32, true, false⟩,
   ⟨.zdcdes0, .word, 0x01e80014#32, 0x01e80014#32, true, false⟩,
   ⟨.zdccnt0, .word, 0x01e80018#32, 0x01e80018#32, true, false⟩,
   ⟨.zdcon1, .word, 0x01e80020#32, 0x01e80020#32, true, true⟩,
   ⟨.zdisrc1, .word, 0x01e80024#32, 0x01e80024#32, true, true⟩,
   ⟨.zdides1, .word, 0x01e80028#32, 0x01e80028#32, true, true⟩,
   ⟨.zdicnt1, .word, 0x01e8002c#32, 0x01e8002c#32, true, true⟩,
   ⟨.zdcsrc1, .word, 0x01e80030#32, 0x01e80030#32, true, false⟩,
   ⟨.zdcdes1, .word, 0x01e80034#32, 0x01e80034#32, true, false⟩,
   ⟨.zdccnt1, .word, 0x01e80038#32, 0x01e80038#32, true, false⟩,
   ⟨.bdcon0, .word, 0x01f80000#32, 0x01f80000#32, true, true⟩,
   ⟨.bdisrc0, .word, 0x01f80004#32, 0x01f80004#32, true, true⟩,
   ⟨.bdides0, .word, 0x01f80008#32, 0x01f80008#32, true, true⟩,
   ⟨.bdicnt0, .word, 0x01f8000c#32, 0x01f8000c#32, true, true⟩,
   ⟨.bdcsrc0, .word, 0x01f80010#32, 0x01f80010#32, true, false⟩,
   ⟨.bdcdes0, .word, 0x01f80014#32, 0x01f80014#32, true, false⟩,
   ⟨.bdccnt0, .word, 0x01f80018#32, 0x01f80018#32, true, false⟩,
   ⟨.bdcon1, .word, 0x01f80020#32, 0x01f80020#32, true, true⟩,
   ⟨.bdisrc1, .word, 0x01f80024#32, 0x01f80024#32, true, true⟩,
   ⟨.bdides1, .word, 0x01f80028#32, 0x01f80028#32, true, true⟩,
   ⟨.bdicnt1, .word, 0x01f8002c#32, 0x01f8002c#32, true, true⟩,
   ⟨.bdcsrc1, .word, 0x01f80030#32, 0x01f80030#32, true, false⟩,
   ⟨.bdcdes1, .word, 0x01f80034#32, 0x01f80034#32, true, false⟩,
   ⟨.bdccnt1, .word, 0x01f80038#32, 0x01f80038#32, true, false⟩]

/-- Every legal access to a special register (10_state.md R70 to R84). -/
def sfrTable : List SfrRow :=
  sfrRows70 ++ sfrRows71 ++ sfrRows72 ++ sfrRows73 ++ sfrRows74 ++ sfrRows75 ++ sfrRows76 ++ sfrRows77
    ++ sfrRows78 ++ sfrRows79 ++ sfrRows80 ++ sfrRows81 ++ sfrRows82 ++ sfrRows83 ++ sfrRows84

/-- The row whose unit and whose address in the current byte order an access has (10_state.md R85, R86). -/
def sfrRow (bigend : Bool) (size : Size) (a : Word) : Option SfrRow :=
  sfrTable.find? (fun r => r.unit == size && (if bigend then r.big else r.little) == a)

/-- A read in the special-register window (10_state.md R86): a listed readable register answers a free value of its
unit's width, zero extended, and the read is recorded; anything else is refused. -/
def sfrRead (size : Size) (a : Word) (s : State) : MemResult Word :=
  match sfrRow s.bigend size a with
  | none => .refused .sfrAccess
  | some r =>
    if r.readable then
      .done ((s.nextDraw (8 * size.bytes)).setWidth 32) { s.drawn with sfrLog := s.sfrLog ++ [.read r.name size] }
    else .refused .sfrAccess

/-- A write in the special-register window (10_state.md R86): a listed writable register records the write as an event;
anything else is refused. -/
def sfrWrite (size : Size) (a v : Word) (s : State) : MemResult Unit :=
  match sfrRow s.bigend size a with
  | none => .refused .sfrAccess
  | some r =>
    if r.writable then
      .done () { s with sfrLog := s.sfrLog ++ [.write r.name size v] }
    else .refused .sfrAccess

end Sys2Proof.Machine
end

