-- ==== Sys2Proof/Machine/Access.lean ====
section
/-! DEFINITION. Data accesses: aborts, special registers, memory, alignment and the prefetch window (20_memory.md). -/

namespace Sys2Proof.Machine

/-- `MemRead(a, n)` of ordinary memory at an aligned address, zero extended (20_memory.md R103). -/
def State.readMem (s : State) (size : Size) (a : Word) : Word :=
  assemble s.bigend (s.mem.readBytes a.toNat size.bytes)

/-- Whether the byte at an address is RAM: only RAM bytes change by a store (R126, notes/assumptions/28.md). -/
def State.isRam (s : State) (a : Nat) : Bool :=
  kindAt s.map a == some .ram

/-- `MemWrite(a, n, v)` of ordinary memory at an aligned address (20_memory.md R103). -/
def State.writeMem (s : State) (size : Size) (a v : Word) : State :=
  { s with mem := s.mem.writeBytes s.isRam a.toNat (disassemble s.bigend size.bytes v) }

/-- One read (20_memory.md R120, R126, R127), in this order: an abort, the special-register window, mapped memory, else a
fault. Register and memory are those of the aligned address (R110, R114). The value is zero extended and not rotated. -/
def loadUnit (size : Size) (a : Word) (priv : Bool) (s : State) : MemResult Word :=
  if s.abortsAccess .read a size priv then .aborted
  else if inSfrWindow a then sfrRead size (alignDown size a) s
  else
    match firstUnmapped s.map (alignDown size a).toNat size.bytes with
    | some x => .fault (.unmappedAddress x)
    | none => .done (s.readMem size (alignDown size a)) s

/-- One write (20_memory.md R120, R126, R127, R141), in this order: an abort, the prefetched words of the instruction at
the PC, the special-register window, mapped memory, else a fault. Register and memory are those of the aligned address
(R111, R114). -/
def storeUnit (size : Size) (a v : Word) (priv : Bool) (s : State) : MemResult Unit :=
  if s.abortsAccess .write a size priv then .aborted
  else if overlapsPrefetch s.pc (alignDown size a) size.bytes then .refused .prefetchStore
  else if inSfrWindow a then sfrWrite size (alignDown size a) v s
  else
    match firstUnmapped s.map (alignDown size a).toNat size.bytes with
    | some x => .fault (.unmappedAddress x)
    | none =>
      if refusesWrite s.map (alignDown size a).toNat size.bytes then .refused .romWrite
      else .done () (s.writeMem size (alignDown size a) v)

/-- Apply a function to the value of a completed access. -/
def MemResult.mapValue (f : Word → Word) (r : MemResult Word) : MemResult Word :=
  match r with
  | .done d s => .done (f d) s
  | .aborted => .aborted
  | .fault x => .fault x
  | .refused x => .refused x

/-- The rotation of a word loaded from `a`: `ROR32(d, 8 * a[1:0])` (20_memory.md R110). -/
def rotateLoaded (a d : Word) : Word :=
  d.rotateRight (8 * (a.extractLsb' 0 2).toNat)

/-- A word load (20_memory.md R110): rotated by the low bits of the address. -/
def loadWord (a : Word) (priv : Bool) (s : State) : MemResult Word :=
  (loadUnit .word a priv s).mapValue (rotateLoaded a)

/-- A byte load, zero extended (44_single_data_transfer.md R357). -/
def loadByte (a : Word) (priv : Bool) (s : State) : MemResult Word :=
  loadUnit .byte a priv s

/-- A byte load, sign extended (44_single_data_transfer.md R365). -/
def loadSignedByte (a : Word) (priv : Bool) (s : State) : MemResult Word :=
  (loadUnit .byte a priv s).mapValue (fun d => (d.setWidth 8).signExtend 32)

/-- A halfword load from an odd address: no access, a free value (20_memory.md R112, notes/assumptions/35.md). -/
def loadOddHalf (s : State) : MemResult Word :=
  .done (s.nextDraw 32) s.drawn

/-- A halfword load, zero extended (44_single_data_transfer.md R364). -/
def loadHalf (a : Word) (priv : Bool) (s : State) : MemResult Word :=
  if a.getLsbD 0 then loadOddHalf s else loadUnit .half a priv s

/-- A halfword load, sign extended (44_single_data_transfer.md R367). -/
def loadSignedHalf (a : Word) (priv : Bool) (s : State) : MemResult Word :=
  if a.getLsbD 0 then loadOddHalf s
  else (loadUnit .half a priv s).mapValue (fun d => (d.setWidth 16).signExtend 32)

/-- Whether MISALIGNED_WORD refuses a word transfer at an address (20_memory.md R111, R114, R115). -/
def State.refusesUnaligned (s : State) (a : Word) : Bool :=
  s.misaligned == .refuse && !wordAligned a

/-- A word store (20_memory.md R111): the unrotated word at the aligned address. -/
def storeWord (a v : Word) (priv : Bool) (s : State) : MemResult Unit :=
  if s.refusesUnaligned a then .refused .unalignedWord else storeUnit .word a v priv s

/-- A byte store: the low byte of the value (44_single_data_transfer.md R359). -/
def storeByte (a v : Word) (priv : Bool) (s : State) : MemResult Unit :=
  storeUnit .byte a (v &&& 0x000000FF#32) priv s

/-- A halfword store: the low halfword of the value; an odd address is refused (44_single_data_transfer.md R368). -/
def storeHalf (a v : Word) (priv : Bool) (s : State) : MemResult Unit :=
  if a.getLsbD 0 then .refused .strhOdd else storeUnit .half a (v &&& 0x0000FFFF#32) priv s

end Sys2Proof.Machine
end

