-- ==== Sys2Proof/Machine/Boundary.lean ====
section
/-! DEFINITION. What happens at an instruction boundary before an instruction is fetched: reset, the stuck state, THUMB
state, FIQ and IRQ (60_exceptions.md R512, R517, R518, R525, R527). -/

namespace Sys2Proof.Machine

/-- A boundary at which nothing is asserted. -/
def Boundary.quiet : Boundary := ⟨none, false, false⟩

/-- The inputs at the coming boundary (60_exceptions.md R533); nothing is asserted past the end of the list. -/
def State.boundary (s : State) : Boundary :=
  s.inputs.head?.getD Boundary.quiet

/-- The state once the inputs of this boundary have been taken. -/
def State.nextBoundary (s : State) : State :=
  { s with inputs := s.inputs.tail }

/-- A PSR whose twelve bits are the `k`-th free value. -/
def drawnPsr (k : Nat) : PSR :=
  PSR.ofWord (Config.draw 32 k)

/-- The CPSR after a reset taken during a run (60_exceptions.md R512): Supervisor mode, I and F set, T clear; the flags
are those of the `k`-th free value (10_state.md R66). -/
def resetCpsr (k : Nat) : PSR :=
  { drawnPsr k with i := true, f := true, t := false, m := Mode.svc.bits }

/-- Reset taken during a run (60_exceptions.md R512, 10_state.md R65, R66, 70_reset_and_hazards.md R601): the pins are
latched, the PC goes to 0, M, I, F and T are forced, and every other register is a free value. Memory and what stands
around the core are kept (notes/assumptions/9.md). -/
def resetEntry (pins : Pins) (s : State) : State :=
  { s with
    regs := Vector.ofFn (fun i : Fin 30 => Config.draw 32 (s.draws + i.val))
    pc := ExceptionKind.reset.vector
    cpsr := resetCpsr (s.draws + 30)
    spsrFiq := drawnPsr (s.draws + 31)
    spsrIrq := drawnPsr (s.draws + 32)
    spsrSvc := drawnPsr (s.draws + 33)
    spsrAbt := drawnPsr (s.draws + 34)
    spsrUnd := drawnPsr (s.draws + 35)
    bigend := pins.endian
    om := pins.om
    bankHazard := false
    draws := s.draws + 36 }

/-- Interrupt entry at a boundary (60_exceptions.md R510, R517, R518): the link value is the address of the instruction
not executed plus 4. -/
def interrupt (k : ExceptionKind) (s : State) : Outcome :=
  .next (enterException k (s.pc + 4#32) s)

/-- Points 1 to 5 of the step (60_exceptions.md R527), on the state without this boundary's inputs; none if an
instruction is to be fetched. -/
def preempt (b : Boundary) (s : State) : Option Outcome :=
  match b.reset with
  | some pins => some (.next (resetEntry pins s))
  | none =>
    if s.mode.isNone then some (.fault .illegalMode)
    else if s.cpsr.t then some (.refused .thumbState)
    else if b.fiq && !s.cpsr.f then some (interrupt .fiq s)
    else if b.irq && !s.cpsr.i then some (interrupt .irq s)
    else none

end Sys2Proof.Machine
end

