-- ==== Sys2Proof/Machine/Fetch.lean ====
section
/-! DEFINITION. Fetching the word at the PC (30_encoding.md R160, 60_exceptions.md R516, R527), and placing a word where
it is fetched. -/

namespace Sys2Proof.Machine

/-- What a fetch gives. -/
inductive Fetched where
  | word (w : Word)
  | aborted
  | fault (r : Fault)
  | refused (r : Refusal)
  deriving DecidableEq, Repr

/-- The fetch of the word at the PC. A fetch in the special-register window and one at an unaligned address are refused
(notes/assumptions/24.md). -/
def fetchWord (s : State) : Fetched :=
  if !wordAligned s.pc then .refused .unalignedPc
  else if s.abortsAccess .fetch s.pc .word s.privileged then .aborted
  else if inSfrWindow s.pc then .refused .sfrAccess
  else
    match firstUnmapped s.map s.pc.toNat 4 with
    | some x => .fault (.unmappedAddress x)
    | none => .word (s.readMem .word s.pc)

/-- Prefetch abort entry for the instruction at the PC: the link value is `ia + 4` (60_exceptions.md R516). -/
def prefetchAbort (s : State) : Outcome :=
  .next (enterException .prefetchAbort (s.pc + 4#32) s)

/-- The state in which the next step fetches a given word at its PC: the word's bytes stand at the PC, the PC's word is
mapped, its fetch is not aborted, and nothing is asserted at the coming boundary. -/
def placeWord (s : State) (w : Word) : State :=
  { s with
    mem := s.mem.writeBytes (fun _ => true) s.pc.toNat (disassemble s.bigend 4 w)
    map := if (firstUnmapped s.map s.pc.toNat 4).isNone then s.map else ⟨s.pc.toNat, 4, .ram⟩ :: s.map
    aborts := s.aborts.filter (fun x => x != ⟨.fetch, s.pc, .word, s.privileged⟩)
    inputs := match s.inputs with
      | [] => []
      | _ :: rest => Boundary.quiet :: rest }

end Sys2Proof.Machine
end

