-- ==== Sys2Proof/WellFormed.lean ====
section
/-! DEFINITION. Which terms of `Instr` an encoding can express. The types of the fields already bound every
width and exclude the reserved condition; what is left is that bit 15 of the register list tells the two
LDM forms with S = 1 apart (30_encoding.md R187, 45_block_data_transfer.md R408, R409). -/

namespace Sys2Proof

/-- An instruction is well formed when its own row of the opcode table can encode it. Operand restrictions
("must not") are no part of this: such words decode, and their meanings refuse them. -/
def Instr.wf (i : Instr) : Bool :=
  match i with
  | .ldmRestore _ _ _ _ _ list => list.getLsbD 15
  | .ldmUser _ _ _ _ _ list => !list.getLsbD 15
  | .bx .. | .mrs .. | .msrReg .. | .msrFlagsReg .. | .msrFlagsImm .. | .mul .. | .mla .. | .umull ..
  | .umlal .. | .smull .. | .smlal .. | .swp .. | .swpb .. | .strhReg .. | .ldrhReg .. | .ldrsbReg ..
  | .ldrshReg .. | .strhImm .. | .ldrhImm .. | .ldrsbImm .. | .ldrshImm .. | .andImm .. | .andShift ..
  | .andRegShift .. | .eorImm .. | .eorShift .. | .eorRegShift .. | .subImm .. | .subShift ..
  | .subRegShift .. | .rsbImm .. | .rsbShift .. | .rsbRegShift .. | .addImm .. | .addShift ..
  | .addRegShift .. | .adcImm .. | .adcShift .. | .adcRegShift .. | .sbcImm .. | .sbcShift ..
  | .sbcRegShift .. | .rscImm .. | .rscShift .. | .rscRegShift .. | .tstImm .. | .tstShift ..
  | .tstRegShift .. | .teqImm .. | .teqShift .. | .teqRegShift .. | .cmpImm .. | .cmpShift ..
  | .cmpRegShift .. | .cmnImm .. | .cmnShift .. | .cmnRegShift .. | .orrImm .. | .orrShift ..
  | .orrRegShift .. | .movImm .. | .movShift .. | .movRegShift .. | .bicImm .. | .bicShift ..
  | .bicRegShift .. | .mvnImm .. | .mvnShift .. | .mvnRegShift .. | .undefined .. | .ldrImmPre ..
  | .ldrRegPre .. | .ldrImmPost .. | .ldrRegPost .. | .ldrtImm .. | .ldrtReg .. | .ldrbImmPre ..
  | .ldrbRegPre .. | .ldrbImmPost .. | .ldrbRegPost .. | .ldrbtImm .. | .ldrbtReg .. | .strImmPre ..
  | .strRegPre .. | .strImmPost .. | .strRegPost .. | .strtImm .. | .strtReg .. | .strbImmPre ..
  | .strbRegPre .. | .strbImmPost .. | .strbRegPost .. | .strbtImm .. | .strbtReg .. | .stmUser ..
  | .ldmda .. | .ldmia .. | .ldmdb .. | .ldmib .. | .stmda .. | .stmia .. | .stmdb .. | .stmib .. | .b ..
  | .bl .. | .ldc .. | .stc .. | .cdp .. | .mcr .. | .mrc .. | .swi .. => true

end Sys2Proof
end

