-- ==== Sys2Proof/Decode.lean ====
section
/-! DEFINITION. Decoding an instruction word by the procedure of 30_encoding.md R162, total on every word and
rejecting by name, and, after it, the encoder written from the field tables of R175 to R192. -/

namespace Sys2Proof

/-! ### Codes of the small fields -/

/-- The condition of bits 31:28 (30_encoding.md R171); none for 1111 (R164). -/
def Cond.ofBits (b : BitVec 4) : Option Cond :=
  match b.toNat with
  | 0 => some .eq | 1 => some .ne | 2 => some .cs | 3 => some .cc | 4 => some .mi | 5 => some .pl
  | 6 => some .vs | 7 => some .vc | 8 => some .hi | 9 => some .ls | 10 => some .ge | 11 => some .lt
  | 12 => some .gt | 13 => some .le | 14 => some .al | _ => none

/-- The code of a condition (30_encoding.md R171). -/
def Cond.bits : Cond → BitVec 4
  | .eq => 0b0000#4 | .ne => 0b0001#4 | .cs => 0b0010#4 | .cc => 0b0011#4 | .mi => 0b0100#4
  | .pl => 0b0101#4 | .vs => 0b0110#4 | .vc => 0b0111#4 | .hi => 0b1000#4 | .ls => 0b1001#4
  | .ge => 0b1010#4 | .lt => 0b1011#4 | .gt => 0b1100#4 | .le => 0b1101#4 | .al => 0b1110#4

/-- The opcode of bits 24:21 (30_encoding.md R175). -/
def Opcode.ofBits (b : BitVec 4) : Opcode :=
  match b.toNat with
  | 0 => .and | 1 => .eor | 2 => .sub | 3 => .rsb | 4 => .add | 5 => .adc | 6 => .sbc | 7 => .rsc
  | 8 => .tst | 9 => .teq | 10 => .cmp | 11 => .cmn | 12 => .orr | 13 => .mov | 14 => .bic | _ => .mvn

/-- The code of an opcode (30_encoding.md R175). -/
def Opcode.bits : Opcode → BitVec 4
  | .and => 0b0000#4 | .eor => 0b0001#4 | .sub => 0b0010#4 | .rsb => 0b0011#4 | .add => 0b0100#4
  | .adc => 0b0101#4 | .sbc => 0b0110#4 | .rsc => 0b0111#4 | .tst => 0b1000#4 | .teq => 0b1001#4
  | .cmp => 0b1010#4 | .cmn => 0b1011#4 | .orr => 0b1100#4 | .mov => 0b1101#4 | .bic => 0b1110#4
  | .mvn => 0b1111#4

/-- The shift type of bits 6:5 (30_encoding.md R195). -/
def ShiftKind.ofBits (b : BitVec 2) : ShiftKind :=
  match b.toNat with
  | 0 => .lsl | 1 => .lsr | 2 => .asr | _ => .ror

/-- The code of a shift type (30_encoding.md R195). -/
def ShiftKind.bits : ShiftKind → BitVec 2
  | .lsl => 0b00#2 | .lsr => 0b01#2 | .asr => 0b10#2 | .ror => 0b11#2

/-! ### Fields of a word -/

/-- Rotate and Imm of bits 11:0 (30_encoding.md R196). -/
def rotImmField (w : Word) : RotImm :=
  ⟨w.extractLsb' 8 4, w.extractLsb' 0 8⟩

/-- Shift amount, type and Rm of bits 11:0, amount in the instruction (30_encoding.md R195). -/
def shiftImmField (w : Word) : ShiftImm :=
  ⟨w.extractLsb' 7 5, ShiftKind.ofBits (w.extractLsb' 5 2), w.extractLsb' 0 4⟩

/-- Rs, type and Rm of bits 11:0, amount in a register (30_encoding.md R195). -/
def shiftRegField (w : Word) : ShiftReg :=
  ⟨w.extractLsb' 8 4, ShiftKind.ofBits (w.extractLsb' 5 2), w.extractLsb' 0 4⟩

/-! ### Data processing (30_encoding.md R175) -/

/-- The data-processing instruction of an opcode with a rotated immediate. -/
def dataImmInstr (op : Opcode) (c : Cond) (sf : Bool) (rn rd : Reg) (o : RotImm) : Instr :=
  match op with
  | .and => .andImm c sf rn rd o
  | .eor => .eorImm c sf rn rd o
  | .sub => .subImm c sf rn rd o
  | .rsb => .rsbImm c sf rn rd o
  | .add => .addImm c sf rn rd o
  | .adc => .adcImm c sf rn rd o
  | .sbc => .sbcImm c sf rn rd o
  | .rsc => .rscImm c sf rn rd o
  | .tst => .tstImm c rn rd o
  | .teq => .teqImm c rn rd o
  | .cmp => .cmpImm c rn rd o
  | .cmn => .cmnImm c rn rd o
  | .orr => .orrImm c sf rn rd o
  | .mov => .movImm c sf rn rd o
  | .bic => .bicImm c sf rn rd o
  | .mvn => .mvnImm c sf rn rd o

/-- The data-processing instruction of an opcode with an immediate-shifted register. -/
def dataShiftInstr (op : Opcode) (c : Cond) (sf : Bool) (rn rd : Reg) (o : ShiftImm) : Instr :=
  match op with
  | .and => .andShift c sf rn rd o
  | .eor => .eorShift c sf rn rd o
  | .sub => .subShift c sf rn rd o
  | .rsb => .rsbShift c sf rn rd o
  | .add => .addShift c sf rn rd o
  | .adc => .adcShift c sf rn rd o
  | .sbc => .sbcShift c sf rn rd o
  | .rsc => .rscShift c sf rn rd o
  | .tst => .tstShift c rn rd o
  | .teq => .teqShift c rn rd o
  | .cmp => .cmpShift c rn rd o
  | .cmn => .cmnShift c rn rd o
  | .orr => .orrShift c sf rn rd o
  | .mov => .movShift c sf rn rd o
  | .bic => .bicShift c sf rn rd o
  | .mvn => .mvnShift c sf rn rd o

/-- The data-processing instruction of an opcode with a register-shifted register. -/
def dataRegShiftInstr (op : Opcode) (c : Cond) (sf : Bool) (rn rd : Reg) (o : ShiftReg) : Instr :=
  match op with
  | .and => .andRegShift c sf rn rd o
  | .eor => .eorRegShift c sf rn rd o
  | .sub => .subRegShift c sf rn rd o
  | .rsb => .rsbRegShift c sf rn rd o
  | .add => .addRegShift c sf rn rd o
  | .adc => .adcRegShift c sf rn rd o
  | .sbc => .sbcRegShift c sf rn rd o
  | .rsc => .rscRegShift c sf rn rd o
  | .tst => .tstRegShift c rn rd o
  | .teq => .teqRegShift c rn rd o
  | .cmp => .cmpRegShift c rn rd o
  | .cmn => .cmnRegShift c rn rd o
  | .orr => .orrRegShift c sf rn rd o
  | .mov => .movRegShift c sf rn rd o
  | .bic => .bicRegShift c sf rn rd o
  | .mvn => .mvnRegShift c sf rn rd o

/-! ### The classes of bits 27:25 (30_encoding.md R162) -/

/-- Bits 27:25 = 000, bits 7 and 4 = 1, bits 6:5 = 00: multiplies and swaps (R179 to R181). -/
def decodeMultiplySwap (c : Cond) (w : Word) : Except DecodeError Instr :=
  if w.extractLsb' 22 6 = 0b000000#6 then
    if w.getLsbD 21 then
      .ok (.mla c (w.getLsbD 20) (w.extractLsb' 16 4) (w.extractLsb' 12 4) (w.extractLsb' 8 4) (w.extractLsb' 0 4))
    else
      .ok (.mul c (w.getLsbD 20) (w.extractLsb' 16 4) (w.extractLsb' 12 4) (w.extractLsb' 8 4) (w.extractLsb' 0 4))
  else if w.extractLsb' 23 5 = 0b00001#5 then
    match w.getLsbD 22, w.getLsbD 21 with
    | false, false =>
      .ok (.umull c (w.getLsbD 20) (w.extractLsb' 16 4) (w.extractLsb' 12 4) (w.extractLsb' 8 4) (w.extractLsb' 0 4))
    | false, true =>
      .ok (.umlal c (w.getLsbD 20) (w.extractLsb' 16 4) (w.extractLsb' 12 4) (w.extractLsb' 8 4) (w.extractLsb' 0 4))
    | true, false =>
      .ok (.smull c (w.getLsbD 20) (w.extractLsb' 16 4) (w.extractLsb' 12 4) (w.extractLsb' 8 4) (w.extractLsb' 0 4))
    | true, true =>
      .ok (.smlal c (w.getLsbD 20) (w.extractLsb' 16 4) (w.extractLsb' 12 4) (w.extractLsb' 8 4) (w.extractLsb' 0 4))
  else if w.extractLsb' 23 5 = 0b00010#5 ∧ w.extractLsb' 20 2 = 0b00#2 ∧ w.extractLsb' 8 4 = 0b0000#4 then
    if w.getLsbD 22 then
      .ok (.swpb c (w.extractLsb' 16 4) (w.extractLsb' 12 4) (w.extractLsb' 0 4))
    else
      .ok (.swp c (w.extractLsb' 16 4) (w.extractLsb' 12 4) (w.extractLsb' 0 4))
  else
    .error .unallocated

/-- Bits 27:25 = 000, bits 7 and 4 = 1, S H ≠ 00, register offset (R183). -/
def halfRegInstr (l s h : Bool) (c : Cond) (p u w : Bool) (rn rd rm : Reg) : Except DecodeError Instr :=
  match l, s, h with
  | false, false, true => .ok (.strhReg c p u w rn rd rm)
  | true, false, true => .ok (.ldrhReg c p u w rn rd rm)
  | true, true, false => .ok (.ldrsbReg c p u w rn rd rm)
  | true, true, true => .ok (.ldrshReg c p u w rn rd rm)
  | false, true, _ => .error .signedStore
  | _, false, false => .error .unallocated

/-- Bits 27:25 = 000, bits 7 and 4 = 1, S H ≠ 00, immediate offset (R184). -/
def halfImmInstr (l s h : Bool) (c : Cond) (p u w : Bool) (rn rd : Reg) (off : BitVec 8) :
    Except DecodeError Instr :=
  match l, s, h with
  | false, false, true => .ok (.strhImm c p u w rn rd off)
  | true, false, true => .ok (.ldrhImm c p u w rn rd off)
  | true, true, false => .ok (.ldrsbImm c p u w rn rd off)
  | true, true, true => .ok (.ldrshImm c p u w rn rd off)
  | false, true, _ => .error .signedStore
  | _, false, false => .error .unallocated

/-- Bits 27:25 = 000, bits 7 and 4 = 1, S H ≠ 00: halfword and signed transfers (R183, R184). A register form
with bits 11:8 not zero is undefined (R163 (b)). -/
def decodeHalfword (c : Cond) (w : Word) : Except DecodeError Instr :=
  if w.getLsbD 22 then
    halfImmInstr (w.getLsbD 20) (w.getLsbD 6) (w.getLsbD 5) c (w.getLsbD 24) (w.getLsbD 23) (w.getLsbD 21)
      (w.extractLsb' 16 4) (w.extractLsb' 12 4) (w.extractLsb' 8 4 ++ w.extractLsb' 0 4)
  else if w.extractLsb' 8 4 = 0b0000#4 then
    halfRegInstr (w.getLsbD 20) (w.getLsbD 6) (w.getLsbD 5) c (w.getLsbD 24) (w.getLsbD 23) (w.getLsbD 21)
      (w.extractLsb' 16 4) (w.extractLsb' 12 4) (w.extractLsb' 0 4)
  else
    .error .unallocated

/-- Bits 27:25 = 000, a test opcode without S: BX and the PSR transfers of a register (R176 to R178, R182). -/
def decodeMiscellaneous (c : Cond) (w : Word) : Except DecodeError Instr :=
  if w.extractLsb' 4 24 = 0x12FFF1#24 then
    .ok (.bx c (w.extractLsb' 0 4))
  else if w.extractLsb' 23 5 = 0b00010#5 ∧ w.extractLsb' 16 6 = 0b001111#6 ∧ w.extractLsb' 0 12 = 0#12 then
    .ok (.mrs c (w.getLsbD 22) (w.extractLsb' 12 4))
  else if w.extractLsb' 23 5 = 0b00010#5 ∧ w.extractLsb' 12 10 = 0b1010011111#10 ∧ w.extractLsb' 4 8 = 0#8 then
    .ok (.msrReg c (w.getLsbD 22) (w.extractLsb' 0 4))
  else if w.extractLsb' 23 5 = 0b00010#5 ∧ w.extractLsb' 12 10 = 0b1010001111#10 ∧ w.extractLsb' 4 8 = 0#8 then
    .ok (.msrFlagsReg c (w.getLsbD 22) (w.extractLsb' 0 4))
  else
    .error .unallocated

/-- Bits 27:25 = 000. -/
def decodeRegisterClass (c : Cond) (w : Word) : Except DecodeError Instr :=
  if w.getLsbD 4 ∧ w.getLsbD 7 then
    if w.extractLsb' 5 2 = 0b00#2 then decodeMultiplySwap c w else decodeHalfword c w
  else if w.extractLsb' 23 2 = 0b10#2 ∧ w.getLsbD 20 = false then
    decodeMiscellaneous c w
  else if w.getLsbD 4 then
    .ok (dataRegShiftInstr (Opcode.ofBits (w.extractLsb' 21 4)) c (w.getLsbD 20) (w.extractLsb' 16 4)
      (w.extractLsb' 12 4) (shiftRegField w))
  else
    .ok (dataShiftInstr (Opcode.ofBits (w.extractLsb' 21 4)) c (w.getLsbD 20) (w.extractLsb' 16 4)
      (w.extractLsb' 12 4) (shiftImmField w))

/-- Bits 27:25 = 001. -/
def decodeImmediateClass (c : Cond) (w : Word) : Except DecodeError Instr :=
  if w.extractLsb' 23 2 = 0b10#2 ∧ w.getLsbD 20 = false then
    if w.extractLsb' 23 5 = 0b00110#5 ∧ w.extractLsb' 12 10 = 0b1010001111#10 then
      .ok (.msrFlagsImm c (w.getLsbD 22) (rotImmField w))
    else
      .error .unallocated
  else
    .ok (dataImmInstr (Opcode.ofBits (w.extractLsb' 21 4)) c (w.getLsbD 20) (w.extractLsb' 16 4)
      (w.extractLsb' 12 4) (rotImmField w))

/-- The single data transfer of L, B, P and W with an immediate offset (R185). -/
def sdtImmInstr (l b p w : Bool) (c : Cond) (u : Bool) (rn rd : Reg) (off : BitVec 12) : Instr :=
  match l, b, p, w with
  | true, false, true, w => .ldrImmPre c u w rn rd off
  | true, false, false, false => .ldrImmPost c u rn rd off
  | true, false, false, true => .ldrtImm c u rn rd off
  | true, true, true, w => .ldrbImmPre c u w rn rd off
  | true, true, false, false => .ldrbImmPost c u rn rd off
  | true, true, false, true => .ldrbtImm c u rn rd off
  | false, false, true, w => .strImmPre c u w rn rd off
  | false, false, false, false => .strImmPost c u rn rd off
  | false, false, false, true => .strtImm c u rn rd off
  | false, true, true, w => .strbImmPre c u w rn rd off
  | false, true, false, false => .strbImmPost c u rn rd off
  | false, true, false, true => .strbtImm c u rn rd off

/-- The single data transfer of L, B, P and W with a register offset (R185). -/
def sdtRegInstr (l b p w : Bool) (c : Cond) (u : Bool) (rn rd : Reg) (o : ShiftImm) : Instr :=
  match l, b, p, w with
  | true, false, true, w => .ldrRegPre c u w rn rd o
  | true, false, false, false => .ldrRegPost c u rn rd o
  | true, false, false, true => .ldrtReg c u rn rd o
  | true, true, true, w => .ldrbRegPre c u w rn rd o
  | true, true, false, false => .ldrbRegPost c u rn rd o
  | true, true, false, true => .ldrbtReg c u rn rd o
  | false, false, true, w => .strRegPre c u w rn rd o
  | false, false, false, false => .strRegPost c u rn rd o
  | false, false, false, true => .strtReg c u rn rd o
  | false, true, true, w => .strbRegPre c u w rn rd o
  | false, true, false, false => .strbRegPost c u rn rd o
  | false, true, false, true => .strbtReg c u rn rd o

/-- The block transfer of S, L, P and U (R187, R213); with S = 1 and L = 1 bit 15 of the list selects the form
(45_block_data_transfer.md R408, R409). -/
def blockInstr (s l p u : Bool) (c : Cond) (w : Bool) (rn : Reg) (list : BitVec 16) : Instr :=
  match s, l, p, u with
  | true, true, p, u => if list.getLsbD 15 then .ldmRestore c p u w rn list else .ldmUser c p u w rn list
  | true, false, p, u => .stmUser c p u w rn list
  | false, true, false, false => .ldmda c w rn list
  | false, true, false, true => .ldmia c w rn list
  | false, true, true, false => .ldmdb c w rn list
  | false, true, true, true => .ldmib c w rn list
  | false, false, false, false => .stmda c w rn list
  | false, false, false, true => .stmia c w rn list
  | false, false, true, false => .stmdb c w rn list
  | false, false, true, true => .stmib c w rn list

/-- Bits 27:25 = 011: register offset, or the Undefined format when bit 4 is 1 (R165, R185). -/
def decodeOffsetRegisterClass (c : Cond) (w : Word) : Instr :=
  if w.getLsbD 4 then
    .undefined c (w.extractLsb' 5 20) (w.extractLsb' 0 4)
  else
    sdtRegInstr (w.getLsbD 20) (w.getLsbD 22) (w.getLsbD 24) (w.getLsbD 21) c (w.getLsbD 23)
      (w.extractLsb' 16 4) (w.extractLsb' 12 4) (shiftImmField w)

/-- Bits 27:25 = 110: LDC and STC (R189). -/
def decodeCoprocessorTransfer (c : Cond) (w : Word) : Instr :=
  if w.getLsbD 20 then
    .ldc c (w.getLsbD 24) (w.getLsbD 23) (w.getLsbD 22) (w.getLsbD 21) (w.extractLsb' 16 4)
      (w.extractLsb' 12 4) (w.extractLsb' 8 4) (w.extractLsb' 0 8)
  else
    .stc c (w.getLsbD 24) (w.getLsbD 23) (w.getLsbD 22) (w.getLsbD 21) (w.extractLsb' 16 4)
      (w.extractLsb' 12 4) (w.extractLsb' 8 4) (w.extractLsb' 0 8)

/-- Bits 27:25 = 111: SWI, CDP, MRC and MCR (R190 to R192). -/
def decodeTrapClass (c : Cond) (w : Word) : Instr :=
  if w.getLsbD 24 then
    .swi c (w.extractLsb' 0 24)
  else if w.getLsbD 4 = false then
    .cdp c (w.extractLsb' 20 4) (w.extractLsb' 16 4) (w.extractLsb' 12 4) (w.extractLsb' 8 4)
      (w.extractLsb' 5 3) (w.extractLsb' 0 4)
  else if w.getLsbD 20 then
    .mrc c (w.extractLsb' 21 3) (w.extractLsb' 16 4) (w.extractLsb' 12 4) (w.extractLsb' 8 4)
      (w.extractLsb' 5 3) (w.extractLsb' 0 4)
  else
    .mcr c (w.extractLsb' 21 3) (w.extractLsb' 16 4) (w.extractLsb' 12 4) (w.extractLsb' 8 4)
      (w.extractLsb' 5 3) (w.extractLsb' 0 4)

/-- The instruction of a word whose condition is `c`, by bits 27:25 (30_encoding.md R162). -/
def decodeClass (c : Cond) (w : Word) : Except DecodeError Instr :=
  match (w.extractLsb' 25 3).toNat with
  | 0 => decodeRegisterClass c w
  | 1 => decodeImmediateClass c w
  | 2 =>
    .ok (sdtImmInstr (w.getLsbD 20) (w.getLsbD 22) (w.getLsbD 24) (w.getLsbD 21) c (w.getLsbD 23)
      (w.extractLsb' 16 4) (w.extractLsb' 12 4) (w.extractLsb' 0 12))
  | 3 => .ok (decodeOffsetRegisterClass c w)
  | 4 =>
    .ok (blockInstr (w.getLsbD 22) (w.getLsbD 20) (w.getLsbD 24) (w.getLsbD 23) c (w.getLsbD 21)
      (w.extractLsb' 16 4) (w.extractLsb' 0 16))
  | 5 => .ok (if w.getLsbD 24 then .bl c (w.extractLsb' 0 24) else .b c (w.extractLsb' 0 24))
  | 6 => .ok (decodeCoprocessorTransfer c w)
  | _ => .ok (decodeTrapClass c w)

/-- Decode an ARM-state instruction word (30_encoding.md R162). Condition 1111 is refused before any other
decoding (R164). -/
def decode (w : Word) : Except DecodeError Instr :=
  match Cond.ofBits (w.extractLsb' 28 4) with
  | none => .error .reservedCondition
  | some c => decodeClass c w

/-- Decode the instruction that stands at the head of a list of bytes, lowest address first, in the given byte
order (20_memory.md R105), and give the bytes after it. -/
def decodeBytes (bigend : Bool) (bytes : List Byte) : Except DecodeError (Instr × List Byte) :=
  match bytes with
  | b0 :: b1 :: b2 :: b3 :: rest =>
    match decode (Machine.assemble bigend [b0, b1, b2, b3]) with
    | .ok i => .ok (i, rest)
    | .error e => .error e
  | _ => .error .truncated

/-- What the decoder reads from an instruction whose bits are `w`, bits at `nbits` and above being 0. The word is
laid out in memory order, lowest address first, in the byte order of the reset state (little endian,
20_memory.md R103), and given to the decoder. -/
def decodeTableWord (nbits w : Nat) : Option Instr :=
  match decodeBytes false (Machine.disassemble false 4 (BitVec.ofNat 32 (w % 2 ^ nbits))) with
  | .ok (i, _) => some i
  | .error _ => none

/-! ### The encoder (30_encoding.md R175 to R192)

Each word is written from its field table, bit 31 first. -/

/-- Data processing with a rotated immediate: Cond 001 OpCode S Rn Rd Rotate Imm (R175, R196). -/
def dataImmWord (c : Cond) (op : Opcode) (sf : Bool) (rn rd : Reg) (o : RotImm) : Word :=
  c.bits ++ 0b001#3 ++ op.bits ++ BitVec.ofBool sf ++ rn ++ rd ++ o.rot ++ o.imm

/-- Data processing, shift amount in the instruction: Cond 000 OpCode S Rn Rd Amount Type 0 Rm (R175, R195). -/
def dataShiftWord (c : Cond) (op : Opcode) (sf : Bool) (rn rd : Reg) (o : ShiftImm) : Word :=
  c.bits ++ 0b000#3 ++ op.bits ++ BitVec.ofBool sf ++ rn ++ rd ++ o.amount ++ o.kind.bits ++ 0b0#1 ++ o.rm

/-- Data processing, shift amount in a register: Cond 000 OpCode S Rn Rd Rs 0 Type 1 Rm (R175, R195). -/
def dataRegShiftWord (c : Cond) (op : Opcode) (sf : Bool) (rn rd : Reg) (o : ShiftReg) : Word :=
  c.bits ++ 0b000#3 ++ op.bits ++ BitVec.ofBool sf ++ rn ++ rd ++ o.rs ++ 0b0#1 ++ o.kind.bits ++ 0b1#1 ++ o.rm

/-- Multiply: Cond 000000 A S Rd Rn Rs 1001 Rm (R179). -/
def mulWord (c : Cond) (a sf : Bool) (rd rn rs rm : Reg) : Word :=
  c.bits ++ 0b000000#6 ++ BitVec.ofBool a ++ BitVec.ofBool sf ++ rd ++ rn ++ rs ++ 0b1001#4 ++ rm

/-- Multiply long: Cond 00001 U A S RdHi RdLo Rs 1001 Rm (R180). -/
def mulLongWord (c : Cond) (u a sf : Bool) (rdHi rdLo rs rm : Reg) : Word :=
  c.bits ++ 0b00001#5 ++ BitVec.ofBool u ++ BitVec.ofBool a ++ BitVec.ofBool sf ++ rdHi ++ rdLo ++ rs
    ++ 0b1001#4 ++ rm

/-- Swap: Cond 00010 B 00 Rn Rd 0000 1001 Rm (R181). -/
def swapWord (c : Cond) (b : Bool) (rn rd rm : Reg) : Word :=
  c.bits ++ 0b00010#5 ++ BitVec.ofBool b ++ 0b00#2 ++ rn ++ rd ++ 0b0000#4 ++ 0b1001#4 ++ rm

/-- BX: Cond 0001 0010 1111 1111 1111 0001 Rn (R182). -/
def bxWord (c : Cond) (rn : Reg) : Word :=
  c.bits ++ 0x12FFF1#24 ++ rn

/-- MRS: Cond 00010 Ps 001111 Rd 000000000000 (R176). -/
def mrsWord (c : Cond) (ps : Bool) (rd : Reg) : Word :=
  c.bits ++ 0b00010#5 ++ BitVec.ofBool ps ++ 0b001111#6 ++ rd ++ 0#12

/-- MSR of a register: Cond 00010 Pd 101001111 or 101000111, then 1 00000000 Rm; bit 16 tells the whole PSR
(R177) from the flag bits (R178). -/
def msrRegWord (c : Cond) (pd whole : Bool) (rm : Reg) : Word :=
  c.bits ++ 0b00010#5 ++ BitVec.ofBool pd ++ 0b10100#5 ++ BitVec.ofBool whole ++ 0b1111#4 ++ 0#8 ++ rm

/-- MSR of an immediate to the flag bits: Cond 00110 Pd 1010001111 Rotate Imm (R178). -/
def msrImmWord (c : Cond) (pd : Bool) (o : RotImm) : Word :=
  c.bits ++ 0b00110#5 ++ BitVec.ofBool pd ++ 0b1010001111#10 ++ o.rot ++ o.imm

/-- Halfword transfer, register offset: Cond 000 P U 0 W L Rn Rd 0000 1 S H 1 Rm (R183). -/
def halfRegWord (c : Cond) (p u w l s h : Bool) (rn rd rm : Reg) : Word :=
  c.bits ++ 0b000#3 ++ BitVec.ofBool p ++ BitVec.ofBool u ++ 0b0#1 ++ BitVec.ofBool w ++ BitVec.ofBool l ++ rn
    ++ rd ++ 0b0000#4 ++ 0b1#1 ++ BitVec.ofBool s ++ BitVec.ofBool h ++ 0b1#1 ++ rm

/-- Halfword transfer, immediate offset: Cond 000 P U 1 W L Rn Rd Offset[7:4] 1 S H 1 Offset[3:0] (R184). -/
def halfImmWord (c : Cond) (p u w l s h : Bool) (rn rd : Reg) (off : BitVec 8) : Word :=
  c.bits ++ 0b000#3 ++ BitVec.ofBool p ++ BitVec.ofBool u ++ 0b1#1 ++ BitVec.ofBool w ++ BitVec.ofBool l ++ rn
    ++ rd ++ off.extractLsb' 4 4 ++ 0b1#1 ++ BitVec.ofBool s ++ BitVec.ofBool h ++ 0b1#1 ++ off.extractLsb' 0 4

/-- Single data transfer, immediate offset: Cond 010 P U B W L Rn Rd Offset (R185). -/
def sdtImmWord (c : Cond) (p u b w l : Bool) (rn rd : Reg) (off : BitVec 12) : Word :=
  c.bits ++ 0b010#3 ++ BitVec.ofBool p ++ BitVec.ofBool u ++ BitVec.ofBool b ++ BitVec.ofBool w
    ++ BitVec.ofBool l ++ rn ++ rd ++ off

/-- Single data transfer, register offset: Cond 011 P U B W L Rn Rd Amount Type 0 Rm (R185, R195). -/
def sdtRegWord (c : Cond) (p u b w l : Bool) (rn rd : Reg) (o : ShiftImm) : Word :=
  c.bits ++ 0b011#3 ++ BitVec.ofBool p ++ BitVec.ofBool u ++ BitVec.ofBool b ++ BitVec.ofBool w
    ++ BitVec.ofBool l ++ rn ++ rd ++ o.amount ++ o.kind.bits ++ 0b0#1 ++ o.rm

/-- The Undefined format: Cond 011, twenty bits, 1, four bits (R186). -/
def undefinedWord (c : Cond) (hi : BitVec 20) (lo : BitVec 4) : Word :=
  c.bits ++ 0b011#3 ++ hi ++ 0b1#1 ++ lo

/-- Block data transfer: Cond 100 P U S W L Rn list (R187). -/
def blockWord (c : Cond) (p u s w l : Bool) (rn : Reg) (list : BitVec 16) : Word :=
  c.bits ++ 0b100#3 ++ BitVec.ofBool p ++ BitVec.ofBool u ++ BitVec.ofBool s ++ BitVec.ofBool w
    ++ BitVec.ofBool l ++ rn ++ list

/-- Branch: Cond 101 L Offset (R188). -/
def branchWord (c : Cond) (l : Bool) (off : BitVec 24) : Word :=
  c.bits ++ 0b101#3 ++ BitVec.ofBool l ++ off

/-- Coprocessor data transfer: Cond 110 P U N W L Rn CRd CP# Offset (R189). -/
def copTransferWord (c : Cond) (p u n w l : Bool) (rn crd cp : Reg) (off : BitVec 8) : Word :=
  c.bits ++ 0b110#3 ++ BitVec.ofBool p ++ BitVec.ofBool u ++ BitVec.ofBool n ++ BitVec.ofBool w
    ++ BitVec.ofBool l ++ rn ++ crd ++ cp ++ off

/-- Coprocessor data operation: Cond 1110 Opc CRn CRd CP# CP 0 CRm (R190). -/
def copDataWord (c : Cond) (opc : BitVec 4) (crn crd cp : Reg) (info : BitVec 3) (crm : Reg) : Word :=
  c.bits ++ 0b1110#4 ++ opc ++ crn ++ crd ++ cp ++ info ++ 0b0#1 ++ crm

/-- Coprocessor register transfer: Cond 1110 Opc L CRn Rd CP# CP 1 CRm (R191). -/
def copRegisterWord (c : Cond) (opc : BitVec 3) (l : Bool) (crn rd cp : Reg) (info : BitVec 3) (crm : Reg) : Word :=
  c.bits ++ 0b1110#4 ++ opc ++ BitVec.ofBool l ++ crn ++ rd ++ cp ++ info ++ 0b1#1 ++ crm

/-- Software interrupt: Cond 1111 comment (R192). -/
def swiWord (c : Cond) (comment : BitVec 24) : Word :=
  c.bits ++ 0b1111#4 ++ comment

/-- The word of an instruction. -/
def encode (i : Instr) : Word :=
  match i with
  | .bx c rn => bxWord c rn
  | .mrs c ps rd => mrsWord c ps rd
  | .msrReg c pd rm => msrRegWord c pd true rm
  | .msrFlagsReg c pd rm => msrRegWord c pd false rm
  | .msrFlagsImm c pd o => msrImmWord c pd o
  | .mul c sf rd rn rs rm => mulWord c false sf rd rn rs rm
  | .mla c sf rd rn rs rm => mulWord c true sf rd rn rs rm
  | .umull c sf rdHi rdLo rs rm => mulLongWord c false false sf rdHi rdLo rs rm
  | .umlal c sf rdHi rdLo rs rm => mulLongWord c false true sf rdHi rdLo rs rm
  | .smull c sf rdHi rdLo rs rm => mulLongWord c true false sf rdHi rdLo rs rm
  | .smlal c sf rdHi rdLo rs rm => mulLongWord c true true sf rdHi rdLo rs rm
  | .swp c rn rd rm => swapWord c false rn rd rm
  | .swpb c rn rd rm => swapWord c true rn rd rm
  | .strhReg c p u w rn rd rm => halfRegWord c p u w false false true rn rd rm
  | .ldrhReg c p u w rn rd rm => halfRegWord c p u w true false true rn rd rm
  | .ldrsbReg c p u w rn rd rm => halfRegWord c p u w true true false rn rd rm
  | .ldrshReg c p u w rn rd rm => halfRegWord c p u w true true true rn rd rm
  | .strhImm c p u w rn rd off => halfImmWord c p u w false false true rn rd off
  | .ldrhImm c p u w rn rd off => halfImmWord c p u w true false true rn rd off
  | .ldrsbImm c p u w rn rd off => halfImmWord c p u w true true false rn rd off
  | .ldrshImm c p u w rn rd off => halfImmWord c p u w true true true rn rd off
  | .andImm c sf rn rd o => dataImmWord c .and sf rn rd o
  | .andShift c sf rn rd o => dataShiftWord c .and sf rn rd o
  | .andRegShift c sf rn rd o => dataRegShiftWord c .and sf rn rd o
  | .eorImm c sf rn rd o => dataImmWord c .eor sf rn rd o
  | .eorShift c sf rn rd o => dataShiftWord c .eor sf rn rd o
  | .eorRegShift c sf rn rd o => dataRegShiftWord c .eor sf rn rd o
  | .subImm c sf rn rd o => dataImmWord c .sub sf rn rd o
  | .subShift c sf rn rd o => dataShiftWord c .sub sf rn rd o
  | .subRegShift c sf rn rd o => dataRegShiftWord c .sub sf rn rd o
  | .rsbImm c sf rn rd o => dataImmWord c .rsb sf rn rd o
  | .rsbShift c sf rn rd o => dataShiftWord c .rsb sf rn rd o
  | .rsbRegShift c sf rn rd o => dataRegShiftWord c .rsb sf rn rd o
  | .addImm c sf rn rd o => dataImmWord c .add sf rn rd o
  | .addShift c sf rn rd o => dataShiftWord c .add sf rn rd o
  | .addRegShift c sf rn rd o => dataRegShiftWord c .add sf rn rd o
  | .adcImm c sf rn rd o => dataImmWord c .adc sf rn rd o
  | .adcShift c sf rn rd o => dataShiftWord c .adc sf rn rd o
  | .adcRegShift c sf rn rd o => dataRegShiftWord c .adc sf rn rd o
  | .sbcImm c sf rn rd o => dataImmWord c .sbc sf rn rd o
  | .sbcShift c sf rn rd o => dataShiftWord c .sbc sf rn rd o
  | .sbcRegShift c sf rn rd o => dataRegShiftWord c .sbc sf rn rd o
  | .rscImm c sf rn rd o => dataImmWord c .rsc sf rn rd o
  | .rscShift c sf rn rd o => dataShiftWord c .rsc sf rn rd o
  | .rscRegShift c sf rn rd o => dataRegShiftWord c .rsc sf rn rd o
  | .tstImm c rn rd o => dataImmWord c .tst true rn rd o
  | .tstShift c rn rd o => dataShiftWord c .tst true rn rd o
  | .tstRegShift c rn rd o => dataRegShiftWord c .tst true rn rd o
  | .teqImm c rn rd o => dataImmWord c .teq true rn rd o
  | .teqShift c rn rd o => dataShiftWord c .teq true rn rd o
  | .teqRegShift c rn rd o => dataRegShiftWord c .teq true rn rd o
  | .cmpImm c rn rd o => dataImmWord c .cmp true rn rd o
  | .cmpShift c rn rd o => dataShiftWord c .cmp true rn rd o
  | .cmpRegShift c rn rd o => dataRegShiftWord c .cmp true rn rd o
  | .cmnImm c rn rd o => dataImmWord c .cmn true rn rd o
  | .cmnShift c rn rd o => dataShiftWord c .cmn true rn rd o
  | .cmnRegShift c rn rd o => dataRegShiftWord c .cmn true rn rd o
  | .orrImm c sf rn rd o => dataImmWord c .orr sf rn rd o
  | .orrShift c sf rn rd o => dataShiftWord c .orr sf rn rd o
  | .orrRegShift c sf rn rd o => dataRegShiftWord c .orr sf rn rd o
  | .movImm c sf rn rd o => dataImmWord c .mov sf rn rd o
  | .movShift c sf rn rd o => dataShiftWord c .mov sf rn rd o
  | .movRegShift c sf rn rd o => dataRegShiftWord c .mov sf rn rd o
  | .bicImm c sf rn rd o => dataImmWord c .bic sf rn rd o
  | .bicShift c sf rn rd o => dataShiftWord c .bic sf rn rd o
  | .bicRegShift c sf rn rd o => dataRegShiftWord c .bic sf rn rd o
  | .mvnImm c sf rn rd o => dataImmWord c .mvn sf rn rd o
  | .mvnShift c sf rn rd o => dataShiftWord c .mvn sf rn rd o
  | .mvnRegShift c sf rn rd o => dataRegShiftWord c .mvn sf rn rd o
  | .undefined c hi lo => undefinedWord c hi lo
  | .ldrImmPre c u w rn rd off => sdtImmWord c true u false w true rn rd off
  | .ldrRegPre c u w rn rd o => sdtRegWord c true u false w true rn rd o
  | .ldrImmPost c u rn rd off => sdtImmWord c false u false false true rn rd off
  | .ldrRegPost c u rn rd o => sdtRegWord c false u false false true rn rd o
  | .ldrtImm c u rn rd off => sdtImmWord c false u false true true rn rd off
  | .ldrtReg c u rn rd o => sdtRegWord c false u false true true rn rd o
  | .ldrbImmPre c u w rn rd off => sdtImmWord c true u true w true rn rd off
  | .ldrbRegPre c u w rn rd o => sdtRegWord c true u true w true rn rd o
  | .ldrbImmPost c u rn rd off => sdtImmWord c false u true false true rn rd off
  | .ldrbRegPost c u rn rd o => sdtRegWord c false u true false true rn rd o
  | .ldrbtImm c u rn rd off => sdtImmWord c false u true true true rn rd off
  | .ldrbtReg c u rn rd o => sdtRegWord c false u true true true rn rd o
  | .strImmPre c u w rn rd off => sdtImmWord c true u false w false rn rd off
  | .strRegPre c u w rn rd o => sdtRegWord c true u false w false rn rd o
  | .strImmPost c u rn rd off => sdtImmWord c false u false false false rn rd off
  | .strRegPost c u rn rd o => sdtRegWord c false u false false false rn rd o
  | .strtImm c u rn rd off => sdtImmWord c false u false true false rn rd off
  | .strtReg c u rn rd o => sdtRegWord c false u false true false rn rd o
  | .strbImmPre c u w rn rd off => sdtImmWord c true u true w false rn rd off
  | .strbRegPre c u w rn rd o => sdtRegWord c true u true w false rn rd o
  | .strbImmPost c u rn rd off => sdtImmWord c false u true false false rn rd off
  | .strbRegPost c u rn rd o => sdtRegWord c false u true false false rn rd o
  | .strbtImm c u rn rd off => sdtImmWord c false u true true false rn rd off
  | .strbtReg c u rn rd o => sdtRegWord c false u true true false rn rd o
  | .ldmRestore c p u w rn list => blockWord c p u true w true rn list
  | .ldmUser c p u w rn list => blockWord c p u true w true rn list
  | .stmUser c p u w rn list => blockWord c p u true w false rn list
  | .ldmda c w rn list => blockWord c false false false w true rn list
  | .ldmia c w rn list => blockWord c false true false w true rn list
  | .ldmdb c w rn list => blockWord c true false false w true rn list
  | .ldmib c w rn list => blockWord c true true false w true rn list
  | .stmda c w rn list => blockWord c false false false w false rn list
  | .stmia c w rn list => blockWord c false true false w false rn list
  | .stmdb c w rn list => blockWord c true false false w false rn list
  | .stmib c w rn list => blockWord c true true false w false rn list
  | .b c off => branchWord c false off
  | .bl c off => branchWord c true off
  | .ldc c p u n w rn crd cp off => copTransferWord c p u n w true rn crd cp off
  | .stc c p u n w rn crd cp off => copTransferWord c p u n w false rn crd cp off
  | .cdp c opc crn crd cp info crm => copDataWord c opc crn crd cp info crm
  | .mcr c opc crn rd cp info crm => copRegisterWord c opc false crn rd cp info crm
  | .mrc c opc crn rd cp info crm => copRegisterWord c opc true crn rd cp info crm
  | .swi c comment => swiWord c comment

end Sys2Proof
end

