-- ==== Sys2Proof/Machine/Flags.lean ====
section
/-! DEFINITION. The condition test and every flag computation (30_encoding.md R170, R171, 41_data_processing.md R255 to
R260, 43_multiply.md R324, R336). -/

namespace Sys2Proof.Machine

/-! ### The condition test -/

/-- `CondPassed` of Table 3-2 (30_encoding.md R171). -/
def condPassed (c : Cond) (p : PSR) : Bool :=
  match c with
  | .eq => p.z
  | .ne => !p.z
  | .cs => p.c
  | .cc => !p.c
  | .mi => p.n
  | .pl => !p.n
  | .vs => p.v
  | .vc => !p.v
  | .hi => p.c && !p.z
  | .ls => !p.c || p.z
  | .ge => p.n == p.v
  | .lt => p.n != p.v
  | .gt => !p.z && p.n == p.v
  | .le => p.z || p.n != p.v
  | .al => true

/-- Every instruction is executed if its condition passes and otherwise only advances the PC (00_scope.md R10,
30_encoding.md R170). -/
def conditionally (c : Cond) (s : State) (body : Outcome) : Outcome :=
  if condPassed c s.cpsr then body else advance s

/-- Stop with a refusal if a restriction is broken, else go on (92_eei_decisions.md D7). -/
def refuseIf (broken : Bool) (why : Refusal) (body : Outcome) : Outcome :=
  if broken then .refused why else body

/-! ### The ALU -/

/-- What the shifter gives: the second operand and the carry out (41_data_processing.md R241). -/
structure Shifted where
  val : Word
  carry : Bool
  deriving DecidableEq, Repr

/-- What the ALU gives: a result and the four flags that it would set. -/
structure AluResult where
  val : Word
  n : Bool
  z : Bool
  c : Bool
  v : Bool
  deriving DecidableEq, Repr

/-- The result of `AddWithCarry(a, b, cin)`: the sum modulo 2^32 (41_data_processing.md R255). -/
def addValue (a b : Word) (cin : Bool) : Word :=
  BitVec.ofNat 32 (a.toNat + b.toNat + cin.toNat)

/-- Its carry: the unsigned sum reaches 2^32 (R255). -/
def addCarry (a b : Word) (cin : Bool) : Bool :=
  decide (2 ^ 32 ≤ a.toNat + b.toNat + cin.toNat)

/-- Its overflow: the signed sum lies outside the signed words (R255). -/
def addOverflow (a b : Word) (cin : Bool) : Bool :=
  let sum := a.toInt + b.toInt + cin.toNat
  decide (sum < -2147483648) || decide (2147483647 < sum)

/-- `AddWithCarry` with the flags of the arithmetic class (R255, R259). -/
def addWithCarry (a b : Word) (cin : Bool) : AluResult :=
  let r := addValue a b cin
  ⟨r, r.msb, r == 0#32, addCarry a b cin, addOverflow a b cin⟩

/-- A result with the flags of the logical class (R258): C from the shifter, V as it was. -/
def logicalResult (r : Word) (carry v : Bool) : AluResult :=
  ⟨r, r.msb, r == 0#32, carry, v⟩

/-- The sixteen operations (41_data_processing.md R255, R270 to R285): operand 1, operand 2 with the shifter carry, and
the CPSR before the instruction. -/
def alu (op : Opcode) (a : Word) (x : Shifted) (p : PSR) : AluResult :=
  match op with
  | .and => logicalResult (a &&& x.val) x.carry p.v
  | .eor => logicalResult (a ^^^ x.val) x.carry p.v
  | .sub => addWithCarry a (~~~x.val) true
  | .rsb => addWithCarry x.val (~~~a) true
  | .add => addWithCarry a x.val false
  | .adc => addWithCarry a x.val p.c
  | .sbc => addWithCarry a (~~~x.val) p.c
  | .rsc => addWithCarry x.val (~~~a) p.c
  | .tst => logicalResult (a &&& x.val) x.carry p.v
  | .teq => logicalResult (a ^^^ x.val) x.carry p.v
  | .cmp => addWithCarry a (~~~x.val) true
  | .cmn => addWithCarry a x.val false
  | .orr => logicalResult (a ||| x.val) x.carry p.v
  | .mov => logicalResult x.val x.carry p.v
  | .bic => logicalResult (a &&& ~~~x.val) x.carry p.v
  | .mvn => logicalResult (~~~x.val) x.carry p.v

/-! ### Writing the flags -/

/-- Write N, Z, C, V and nothing else of the CPSR. -/
def State.setNZCV (s : State) (n z c v : Bool) : State :=
  { s with cpsr := { s.cpsr with n := n, z := z, c := c, v := v } }

/-- The flags of an ALU result (R258, R259). -/
def State.setAluFlags (s : State) (r : AluResult) : State :=
  s.setNZCV r.n r.z r.c r.v

/-- The flags of MUL and MLA (43_multiply.md R324): N and Z of the result, C a free value, V as it was. -/
def State.setMulFlags (s : State) (r : Word) : State :=
  s.drawn.setNZCV r.msb (r == 0#32) ((s.nextDraw 1).getLsbD 0) s.cpsr.v

/-- The flags of the long multiplies (43_multiply.md R336): N and Z of the 64-bit result, C and V free values. -/
def State.setLongFlags (s : State) (r : BitVec 64) : State :=
  s.drawn.drawn.setNZCV r.msb (r == 0#64) ((s.nextDraw 1).getLsbD 0) ((s.drawn.nextDraw 1).getLsbD 0)

end Sys2Proof.Machine
end

