-- ==== Sys2Proof/Machine/Operands.lean ====
section
/-! DEFINITION. Every operand form: the barrel shifter, rotated immediates, transfer offsets and indexing, register
lists and block addresses, branch offsets (30_encoding.md R195 to R201, 41_data_processing.md R241 to R252,
44_single_data_transfer.md R351, R363, 45_block_data_transfer.md R402). -/

namespace Sys2Proof.Machine

/-! ### The barrel shifter -/

/-- A logical shift left by `n` (R242, R243, R250); `c` is the old carry. -/
def shiftLeft (n : Nat) (m : Word) (c : Bool) : Shifted :=
  if n = 0 then ⟨m, c⟩
  else if n ≤ 32 then ⟨m <<< n, m.getLsbD (32 - n)⟩
  else ⟨0#32, false⟩

/-- A logical shift right by `n` (R244, R250). -/
def shiftRightLogical (n : Nat) (m : Word) (c : Bool) : Shifted :=
  if n = 0 then ⟨m, c⟩
  else if n ≤ 32 then ⟨m >>> n, m.getLsbD (n - 1)⟩
  else ⟨0#32, false⟩

/-- An arithmetic shift right by `n` (R245, R250). -/
def shiftRightArith (n : Nat) (m : Word) (c : Bool) : Shifted :=
  if n = 0 then ⟨m, c⟩
  else if n < 32 then ⟨m.sshiftRight n, m.getLsbD (n - 1)⟩
  else ⟨if m.msb then 0xFFFFFFFF#32 else 0#32, m.msb⟩

/-- A rotate right by `n` (R246, R250): by `n` modulo 32, the carry being bit 31 of the result. -/
def rotateRightBy (n : Nat) (m : Word) (c : Bool) : Shifted :=
  if n = 0 then ⟨m, c⟩ else ⟨m.rotateRight (n % 32), m.getLsbD ((n - 1) % 32)⟩

/-- Rotate right extended (R247). -/
def rotateRightExtended (m : Word) (c : Bool) : Shifted :=
  ⟨BitVec.ofBool c ++ m.extractLsb' 1 31, m.getLsbD 0⟩

/-- A shift by an amount taken as it is: 0 leaves the operand and the carry (R248), 1 to 255 shift (R249, R250). -/
def shiftBy (kind : ShiftKind) (n : Nat) (m : Word) (c : Bool) : Shifted :=
  match kind with
  | .lsl => shiftLeft n m c
  | .lsr => shiftRightLogical n m c
  | .asr => shiftRightArith n m c
  | .ror => rotateRightBy n m c

/-- A shift by the amount field of an instruction (R242 to R247): 0 is LSL #0, LSR #32, ASR #32 or RRX. -/
def shiftByField (kind : ShiftKind) (amount : BitVec 5) (m : Word) (c : Bool) : Shifted :=
  if amount = 0#5 then
    match kind with
    | .lsl => shiftBy .lsl 0 m c
    | .lsr => shiftBy .lsr 32 m c
    | .asr => shiftBy .asr 32 m c
    | .ror => rotateRightExtended m c
  else shiftBy kind amount.toNat m c

/-- The value of a rotated immediate: Imm rotated right by twice Rotate (30_encoding.md R196). -/
def rotImmValue (o : RotImm) : Word :=
  (o.imm.setWidth 32).rotateRight (2 * o.rot.toNat)

/-- A rotated immediate with its carry (41_data_processing.md R251): the old carry where Rotate is 0, else bit 31. The
carry is PRESUMED by the spec (G7, notes/assumptions/20.md). -/
def immOperand (o : RotImm) (s : State) : Shifted :=
  ⟨rotImmValue o, if o.rot = 0#4 then s.cpsr.c else (rotImmValue o).msb⟩

/-- A register shifted by an amount in the instruction; R15 reads as `ia + 8` (R252). -/
def shiftOperand (o : ShiftImm) (s : State) : Shifted :=
  shiftByField o.kind o.amount (s.readReg 8#32 o.rm) s.cpsr.c

/-- A register shifted by the bottom byte of Rs (R248 to R250); R15 reads as `ia + 12` (R252). -/
def regShiftOperand (o : ShiftReg) (s : State) : Shifted :=
  shiftBy o.kind ((s.readReg 12#32 o.rs).extractLsb' 0 8).toNat (s.readReg 12#32 o.rm) s.cpsr.c

/-! ### Offsets and indexing of single transfers -/

/-- The offset of LDR and STR with a shifted register (44_single_data_transfer.md R351): the carry out is discarded. -/
def shiftedOffset (o : ShiftImm) (s : State) : Word :=
  (shiftByField o.kind o.amount (s.readReg 8#32 o.rm) s.cpsr.c).val

/-- Base plus or minus offset, modulo 2^32. -/
def offsetBase (u : Bool) (base off : Word) : Word :=
  if u then base + off else base - off

/-- What a single transfer's addressing gives: the transfer address and the written-back base, if any (R351). -/
structure Indexed where
  addr : Word
  writeBack : Option Word
  deriving DecidableEq, Repr

/-- Pre-indexed: the modified base is the address, written back if `w` (R351). -/
def preIndexed (u w : Bool) (base off : Word) : Indexed :=
  ⟨offsetBase u base off, if w then some (offsetBase u base off) else none⟩

/-- Post-indexed: the base is the address, the modified base is always written back (R351). -/
def postIndexed (u : Bool) (base off : Word) : Indexed :=
  ⟨base, some (offsetBase u base off)⟩

/-- Pre-indexed or post-indexed by the P bit, as the halfword class encodes it (R363). -/
def indexedBy (p u w : Bool) (base off : Word) : Indexed :=
  if p then preIndexed u w base off else postIndexed u base off

/-- Write the modified base back, if there is one. -/
def State.writeBase (s : State) (rn : Reg) (x : Indexed) : State :=
  match x.writeBack with
  | some v => s.setReg rn v
  | none => s

/-! ### Block transfers -/

/-- The registers of a list, ascending (45_block_data_transfer.md R401, R402). -/
def regsOf (list : BitVec 16) : List Reg :=
  [0#4, 1#4, 2#4, 3#4, 4#4, 5#4, 6#4, 7#4, 8#4, 9#4, 10#4, 11#4, 12#4, 13#4, 14#4, 15#4].filter
    (fun i => list.getLsbD i.toNat)

/-- `4 * n` for a list of `n` registers. -/
def blockSpan (list : BitVec 16) : Word :=
  BitVec.ofNat 32 (4 * (regsOf list).length)

/-- The lowest address of a block (R402; the decrementing rows are PRESUMED by the spec, G18,
notes/assumptions/21.md). -/
def blockStart (p u : Bool) (base span : Word) : Word :=
  match p, u with
  | false, true => base
  | true, true => base + 4#32
  | false, false => base - span + 4#32
  | true, false => base - span

/-- The written-back base of a block transfer (R402). -/
def blockNewBase (u : Bool) (base span : Word) : Word :=
  if u then base + span else base - span

/-! ### Branches -/

/-- The byte offset of a branch: the field times four, sign extended (30_encoding.md R197, 40_branch.md R223). -/
def branchOffset (off : BitVec 24) : Word :=
  (off ++ 0b00#2).signExtend 32

end Sys2Proof.Machine
end

