-- ==== Sys2Proof/Machine/BlockTransfer.lean ====
section
/-! DEFINITION. LDM and STM (45_block_data_transfer.md). -/

namespace Sys2Proof.Machine

/-- What a run of block loads ends in: all done, with the word loaded for R15 if it is in the list; aborted, with the
registers loaded before; or a stop. -/
inductive BlockLoad where
  | done (target : Option Word) (s : State)
  | aborted (s : State)
  | fault (r : Fault)
  | refused (r : Refusal)
  deriving DecidableEq, Repr

/-- What a run of block stores ends in: all issued, with whether one aborted; or a stop. -/
inductive BlockStore where
  | done (aborted : Bool) (s : State)
  | fault (r : Fault)
  | refused (r : Refusal)
  deriving DecidableEq, Repr

/-- Load registers from ascending words (R406). `put` writes a register of the bank concerned; the word for R15 is kept
for the end. Loading stops at the first abort (R410). -/
def loadBlock (put : State → Reg → Word → State) : List Reg → Word → Option Word → State → BlockLoad
  | [], _, target, s => .done target s
  | i :: rest, a, target, s =>
    match loadUnit .word a s.privileged s with
    | .done d s1 =>
      if i = 15#4 then loadBlock put rest (a + 4#32) (some d) s1
      else loadBlock put rest (a + 4#32) target (put s1 i d)
    | .aborted => .aborted s
    | .fault f => .fault f
    | .refused f => .refused f

/-- Store words at ascending addresses (R405). An aborted store changes no memory and the others go on (R410, D10). -/
def storeBlock : List Word → Word → Bool → State → BlockStore
  | [], _, ab, s => .done ab s
  | v :: rest, a, ab, s =>
    match storeUnit .word a v s.privileged s with
    | .done _ s1 => storeBlock rest (a + 4#32) ab s1
    | .aborted => storeBlock rest (a + 4#32) true s
    | .fault f => .fault f
    | .refused f => .refused f

/-- The word that STM stores for each register of its list (R403, R405): R15 as `ia + 12`, the base as its modified value
where it is written back and is not the first, else the register. -/
def storedWords (w : Bool) (rn : Reg) (newBase : Word) (regs : List Reg) (s : State) : List Word :=
  match regs with
  | [] => []
  | first :: rest =>
    s.readReg 12#32 first
      :: rest.map (fun i => if w && i == rn then newBase else s.readReg 12#32 i)

/-- The restrictions of every block transfer (R401, R404). -/
def blockChecked (rn : Reg) (list : BitVec 16) (s : State) (body : Outcome) : Outcome :=
  refuseIf (list == 0#16) .emptyList
    (refuseIf (rn == 15#4) .baseR15
      (refuseIf (s.refusesUnaligned (s.readReg 8#32 rn)) .unalignedWord body))

/-- The base register after the address computation, written back if `w` (R403). -/
def State.withNewBase (s : State) (w : Bool) (rn : Reg) (newBase : Word) : State :=
  if w then s.setReg rn newBase else s

/-- The end of an LDM after an abort (R410): the base is restored, to its modified value if written back, and the data
abort is taken. -/
def abortedLoadBlock (w : Bool) (rn : Reg) (base newBase : Word) (s : State) : Outcome :=
  dataAbort (s.setReg rn (if w then newBase else base))

/-- LDM with S = 0 (R406, R407). -/
def loadMultiple (p u w : Bool) (rn : Reg) (list : BitVec 16) (s : State) : Outcome :=
  let base := s.readReg 8#32 rn
  let newBase := blockNewBase u base (blockSpan list)
  blockChecked rn list s
    (match loadBlock State.setReg (regsOf list) (blockStart p u base (blockSpan list)) none
        (s.withNewBase w rn newBase) with
      | .done (some t) s1 => writePc t s1
      | .done none s1 => advance s1
      | .aborted s1 => abortedLoadBlock w rn base newBase s1
      | .fault f => .fault f
      | .refused f => .refused f)

/-- STM with S = 0 (R405). -/
def storeMultiple (p u w : Bool) (rn : Reg) (list : BitVec 16) (s : State) : Outcome :=
  let base := s.readReg 8#32 rn
  let newBase := blockNewBase u base (blockSpan list)
  blockChecked rn list s
    (match storeBlock (storedWords w rn newBase (regsOf list) s) (blockStart p u base (blockSpan list)) false s with
      | .done false s1 => advance (s1.withNewBase w rn newBase)
      | .done true s1 => dataAbort (s1.withNewBase w rn newBase)
      | .fault f => .fault f
      | .refused f => .refused f)

/-- Whether the current mode has banked registers: the user-bank LDM hazard arises in those only (R621). -/
def State.hasBank (s : State) : Bool :=
  s.spsr.isSome

/-- LDM with S and R15 in the list (R408): the SPSR goes to the CPSR together with the PC. Refused in User and System
mode (R404, D29). -/
def execLdmRestore (c : Cond) (p u w : Bool) (rn : Reg) (list : BitVec 16) (s : State) : Outcome :=
  let base := s.readReg 8#32 rn
  let newBase := blockNewBase u base (blockSpan list)
  conditionally c s (refuseIf (!s.privileged) .sBitUser (refuseIf s.spsr.isNone .noSpsr
    (blockChecked rn list s
      (match loadBlock State.setReg (regsOf list) (blockStart p u base (blockSpan list)) none
          (s.withNewBase w rn newBase) with
        | .done (some t) s1 => exceptionReturn t s1
        | .done none s1 => advance s1
        | .aborted s1 => abortedLoadBlock w rn base newBase s1
        | .fault f => .fault f
        | .refused f => .refused f))))

/-- LDM with S, R15 not in the list (R409): the User bank is loaded, the base is the current mode's. The next instruction
must not read a banked register (R621). -/
def execLdmUser (c : Cond) (p u w : Bool) (rn : Reg) (list : BitVec 16) (s : State) : Outcome :=
  let base := s.readReg 8#32 rn
  conditionally c s (refuseIf (!s.privileged) .sBitUser (refuseIf w .userBankWriteBack
    (blockChecked rn list s
      (match loadBlock State.setUserReg (regsOf list) (blockStart p u base (blockSpan list)) none s with
        | .done _ s1 => advance { s1 with bankHazard := s.hasBank }
        | .aborted s1 => abortedLoadBlock false rn base base s1
        | .fault f => .fault f
        | .refused f => .refused f))))

/-- STM with S (R409): the User bank is stored, a listed R15 as `ia + 12`. -/
def execStmUser (c : Cond) (p u w : Bool) (rn : Reg) (list : BitVec 16) (s : State) : Outcome :=
  let base := s.readReg 8#32 rn
  conditionally c s (refuseIf (!s.privileged) .sBitUser (refuseIf w .userBankWriteBack
    (blockChecked rn list s
      (match storeBlock ((regsOf list).map s.readUserReg) (blockStart p u base (blockSpan list)) false s with
        | .done false s1 => advance s1
        | .done true s1 => dataAbort s1
        | .fault f => .fault f
        | .refused f => .refused f))))

/-- LDMDA, S = 0 (R406, R407). -/
def execLdmda (c : Cond) (w : Bool) (rn : Reg) (list : BitVec 16) (s : State) : Outcome :=
  conditionally c s (loadMultiple false false w rn list s)

/-- LDMIA, S = 0 (R406, R407). -/
def execLdmia (c : Cond) (w : Bool) (rn : Reg) (list : BitVec 16) (s : State) : Outcome :=
  conditionally c s (loadMultiple false true w rn list s)

/-- LDMDB, S = 0 (R406, R407). -/
def execLdmdb (c : Cond) (w : Bool) (rn : Reg) (list : BitVec 16) (s : State) : Outcome :=
  conditionally c s (loadMultiple true false w rn list s)

/-- LDMIB, S = 0 (R406, R407). -/
def execLdmib (c : Cond) (w : Bool) (rn : Reg) (list : BitVec 16) (s : State) : Outcome :=
  conditionally c s (loadMultiple true true w rn list s)

/-- STMDA, S = 0 (R405). -/
def execStmda (c : Cond) (w : Bool) (rn : Reg) (list : BitVec 16) (s : State) : Outcome :=
  conditionally c s (storeMultiple false false w rn list s)

/-- STMIA, S = 0 (R405). -/
def execStmia (c : Cond) (w : Bool) (rn : Reg) (list : BitVec 16) (s : State) : Outcome :=
  conditionally c s (storeMultiple false true w rn list s)

/-- STMDB, S = 0 (R405). -/
def execStmdb (c : Cond) (w : Bool) (rn : Reg) (list : BitVec 16) (s : State) : Outcome :=
  conditionally c s (storeMultiple true false w rn list s)

/-- STMIB, S = 0 (R405). -/
def execStmib (c : Cond) (w : Bool) (rn : Reg) (list : BitVec 16) (s : State) : Outcome :=
  conditionally c s (storeMultiple true true w rn list s)

end Sys2Proof.Machine
end

