-- ==== Sys2Proof/Machine/Branch.lean ====
section
/-! DEFINITION. BX, B and BL (40_branch.md). -/

namespace Sys2Proof.Machine

/-- BX (R222): T and the PC from Rn; Rn = R15 is refused. -/
def execBx (c : Cond) (rn : Reg) (s : State) : Outcome :=
  conditionally c s (refuseIf (rn == 15#4) .bxR15
    (writePc (s.readReg 8#32 rn) { s with cpsr := { s.cpsr with t := (s.readReg 8#32 rn).getLsbD 0 } }))

/-- B (R223). -/
def execB (c : Cond) (off : BitVec 24) (s : State) : Outcome :=
  conditionally c s (.next { s with pc := s.pc + 8#32 + branchOffset off })

/-- BL (R224): R14 of the current mode receives `ia + 4`. -/
def execBl (c : Cond) (off : BitVec 24) (s : State) : Outcome :=
  conditionally c s
    (.next { s.setReg 14#4 (s.pc + 4#32) with pc := s.pc + 8#32 + branchOffset off })

end Sys2Proof.Machine
end

