-- ==== Sys2Proof/Machine/DataProcessing.lean ====
section
/-! DEFINITION. The sixteen data-processing instructions in their three operand forms (41_data_processing.md). -/

namespace Sys2Proof.Machine

/-- The end of a result-writing operation (R260 to R262, R265): Rd is written and, with S, the flags; with Rd = R15 the
PC is written, and with S the CPSR is restored from the SPSR instead of the flags. -/
def writeResult (sf : Bool) (rd : Reg) (r : AluResult) (s : State) : Outcome :=
  if rd = 15#4 then
    if sf then exceptionReturn r.val s else writePc r.val s
  else if sf then advance ((s.setReg rd r.val).setAluFlags r)
  else advance (s.setReg rd r.val)

/-- The end of TST, TEQ, CMP and CMN (R264, R265): the flags are set, Rd is not written; Rd = R15 is refused (D24). -/
def testResult (rd : Reg) (r : AluResult) (s : State) : Outcome :=
  refuseIf (rd == 15#4) .teqpForm (advance (s.setAluFlags r))

/-- AND with a rotated immediate (41_data_processing.md R265, R270). -/
def execAndImm (c : Cond) (sf : Bool) (rn rd : Reg) (o : RotImm) (s : State) : Outcome :=
  conditionally c s (writeResult sf rd (alu .and (s.readReg 8#32 rn) (immOperand o s) s.cpsr) s)

/-- AND with a register shifted by an immediate amount (41_data_processing.md R265, R270). -/
def execAndShift (c : Cond) (sf : Bool) (rn rd : Reg) (o : ShiftImm) (s : State) : Outcome :=
  conditionally c s (writeResult sf rd (alu .and (s.readReg 8#32 rn) (shiftOperand o s) s.cpsr) s)

/-- AND with a register shifted by a register (41_data_processing.md R265, R270). -/
def execAndRegShift (c : Cond) (sf : Bool) (rn rd : Reg) (o : ShiftReg) (s : State) : Outcome :=
  conditionally c s (refuseIf (o.rs == 15#4) .shiftAmountR15
    (writeResult sf rd (alu .and (s.readReg 12#32 rn) (regShiftOperand o s) s.cpsr) s))

/-- EOR with a rotated immediate (41_data_processing.md R265, R271). -/
def execEorImm (c : Cond) (sf : Bool) (rn rd : Reg) (o : RotImm) (s : State) : Outcome :=
  conditionally c s (writeResult sf rd (alu .eor (s.readReg 8#32 rn) (immOperand o s) s.cpsr) s)

/-- EOR with a register shifted by an immediate amount (41_data_processing.md R265, R271). -/
def execEorShift (c : Cond) (sf : Bool) (rn rd : Reg) (o : ShiftImm) (s : State) : Outcome :=
  conditionally c s (writeResult sf rd (alu .eor (s.readReg 8#32 rn) (shiftOperand o s) s.cpsr) s)

/-- EOR with a register shifted by a register (41_data_processing.md R265, R271). -/
def execEorRegShift (c : Cond) (sf : Bool) (rn rd : Reg) (o : ShiftReg) (s : State) : Outcome :=
  conditionally c s (refuseIf (o.rs == 15#4) .shiftAmountR15
    (writeResult sf rd (alu .eor (s.readReg 12#32 rn) (regShiftOperand o s) s.cpsr) s))

/-- SUB with a rotated immediate (41_data_processing.md R265, R272). -/
def execSubImm (c : Cond) (sf : Bool) (rn rd : Reg) (o : RotImm) (s : State) : Outcome :=
  conditionally c s (writeResult sf rd (alu .sub (s.readReg 8#32 rn) (immOperand o s) s.cpsr) s)

/-- SUB with a register shifted by an immediate amount (41_data_processing.md R265, R272). -/
def execSubShift (c : Cond) (sf : Bool) (rn rd : Reg) (o : ShiftImm) (s : State) : Outcome :=
  conditionally c s (writeResult sf rd (alu .sub (s.readReg 8#32 rn) (shiftOperand o s) s.cpsr) s)

/-- SUB with a register shifted by a register (41_data_processing.md R265, R272). -/
def execSubRegShift (c : Cond) (sf : Bool) (rn rd : Reg) (o : ShiftReg) (s : State) : Outcome :=
  conditionally c s (refuseIf (o.rs == 15#4) .shiftAmountR15
    (writeResult sf rd (alu .sub (s.readReg 12#32 rn) (regShiftOperand o s) s.cpsr) s))

/-- RSB with a rotated immediate (41_data_processing.md R265, R273). -/
def execRsbImm (c : Cond) (sf : Bool) (rn rd : Reg) (o : RotImm) (s : State) : Outcome :=
  conditionally c s (writeResult sf rd (alu .rsb (s.readReg 8#32 rn) (immOperand o s) s.cpsr) s)

/-- RSB with a register shifted by an immediate amount (41_data_processing.md R265, R273). -/
def execRsbShift (c : Cond) (sf : Bool) (rn rd : Reg) (o : ShiftImm) (s : State) : Outcome :=
  conditionally c s (writeResult sf rd (alu .rsb (s.readReg 8#32 rn) (shiftOperand o s) s.cpsr) s)

/-- RSB with a register shifted by a register (41_data_processing.md R265, R273). -/
def execRsbRegShift (c : Cond) (sf : Bool) (rn rd : Reg) (o : ShiftReg) (s : State) : Outcome :=
  conditionally c s (refuseIf (o.rs == 15#4) .shiftAmountR15
    (writeResult sf rd (alu .rsb (s.readReg 12#32 rn) (regShiftOperand o s) s.cpsr) s))

/-- ADD with a rotated immediate (41_data_processing.md R265, R274). -/
def execAddImm (c : Cond) (sf : Bool) (rn rd : Reg) (o : RotImm) (s : State) : Outcome :=
  conditionally c s (writeResult sf rd (alu .add (s.readReg 8#32 rn) (immOperand o s) s.cpsr) s)

/-- ADD with a register shifted by an immediate amount (41_data_processing.md R265, R274). -/
def execAddShift (c : Cond) (sf : Bool) (rn rd : Reg) (o : ShiftImm) (s : State) : Outcome :=
  conditionally c s (writeResult sf rd (alu .add (s.readReg 8#32 rn) (shiftOperand o s) s.cpsr) s)

/-- ADD with a register shifted by a register (41_data_processing.md R265, R274). -/
def execAddRegShift (c : Cond) (sf : Bool) (rn rd : Reg) (o : ShiftReg) (s : State) : Outcome :=
  conditionally c s (refuseIf (o.rs == 15#4) .shiftAmountR15
    (writeResult sf rd (alu .add (s.readReg 12#32 rn) (regShiftOperand o s) s.cpsr) s))

/-- ADC with a rotated immediate (41_data_processing.md R265, R275). -/
def execAdcImm (c : Cond) (sf : Bool) (rn rd : Reg) (o : RotImm) (s : State) : Outcome :=
  conditionally c s (writeResult sf rd (alu .adc (s.readReg 8#32 rn) (immOperand o s) s.cpsr) s)

/-- ADC with a register shifted by an immediate amount (41_data_processing.md R265, R275). -/
def execAdcShift (c : Cond) (sf : Bool) (rn rd : Reg) (o : ShiftImm) (s : State) : Outcome :=
  conditionally c s (writeResult sf rd (alu .adc (s.readReg 8#32 rn) (shiftOperand o s) s.cpsr) s)

/-- ADC with a register shifted by a register (41_data_processing.md R265, R275). -/
def execAdcRegShift (c : Cond) (sf : Bool) (rn rd : Reg) (o : ShiftReg) (s : State) : Outcome :=
  conditionally c s (refuseIf (o.rs == 15#4) .shiftAmountR15
    (writeResult sf rd (alu .adc (s.readReg 12#32 rn) (regShiftOperand o s) s.cpsr) s))

/-- SBC with a rotated immediate (41_data_processing.md R265, R276). -/
def execSbcImm (c : Cond) (sf : Bool) (rn rd : Reg) (o : RotImm) (s : State) : Outcome :=
  conditionally c s (writeResult sf rd (alu .sbc (s.readReg 8#32 rn) (immOperand o s) s.cpsr) s)

/-- SBC with a register shifted by an immediate amount (41_data_processing.md R265, R276). -/
def execSbcShift (c : Cond) (sf : Bool) (rn rd : Reg) (o : ShiftImm) (s : State) : Outcome :=
  conditionally c s (writeResult sf rd (alu .sbc (s.readReg 8#32 rn) (shiftOperand o s) s.cpsr) s)

/-- SBC with a register shifted by a register (41_data_processing.md R265, R276). -/
def execSbcRegShift (c : Cond) (sf : Bool) (rn rd : Reg) (o : ShiftReg) (s : State) : Outcome :=
  conditionally c s (refuseIf (o.rs == 15#4) .shiftAmountR15
    (writeResult sf rd (alu .sbc (s.readReg 12#32 rn) (regShiftOperand o s) s.cpsr) s))

/-- RSC with a rotated immediate (41_data_processing.md R265, R277). -/
def execRscImm (c : Cond) (sf : Bool) (rn rd : Reg) (o : RotImm) (s : State) : Outcome :=
  conditionally c s (writeResult sf rd (alu .rsc (s.readReg 8#32 rn) (immOperand o s) s.cpsr) s)

/-- RSC with a register shifted by an immediate amount (41_data_processing.md R265, R277). -/
def execRscShift (c : Cond) (sf : Bool) (rn rd : Reg) (o : ShiftImm) (s : State) : Outcome :=
  conditionally c s (writeResult sf rd (alu .rsc (s.readReg 8#32 rn) (shiftOperand o s) s.cpsr) s)

/-- RSC with a register shifted by a register (41_data_processing.md R265, R277). -/
def execRscRegShift (c : Cond) (sf : Bool) (rn rd : Reg) (o : ShiftReg) (s : State) : Outcome :=
  conditionally c s (refuseIf (o.rs == 15#4) .shiftAmountR15
    (writeResult sf rd (alu .rsc (s.readReg 12#32 rn) (regShiftOperand o s) s.cpsr) s))

/-- TST with a rotated immediate (41_data_processing.md R265, R278). -/
def execTstImm (c : Cond) (rn rd : Reg) (o : RotImm) (s : State) : Outcome :=
  conditionally c s (testResult rd (alu .tst (s.readReg 8#32 rn) (immOperand o s) s.cpsr) s)

/-- TST with a register shifted by an immediate amount (41_data_processing.md R265, R278). -/
def execTstShift (c : Cond) (rn rd : Reg) (o : ShiftImm) (s : State) : Outcome :=
  conditionally c s (testResult rd (alu .tst (s.readReg 8#32 rn) (shiftOperand o s) s.cpsr) s)

/-- TST with a register shifted by a register (41_data_processing.md R265, R278). -/
def execTstRegShift (c : Cond) (rn rd : Reg) (o : ShiftReg) (s : State) : Outcome :=
  conditionally c s (refuseIf (o.rs == 15#4) .shiftAmountR15
    (testResult rd (alu .tst (s.readReg 12#32 rn) (regShiftOperand o s) s.cpsr) s))

/-- TEQ with a rotated immediate (41_data_processing.md R265, R279). -/
def execTeqImm (c : Cond) (rn rd : Reg) (o : RotImm) (s : State) : Outcome :=
  conditionally c s (testResult rd (alu .teq (s.readReg 8#32 rn) (immOperand o s) s.cpsr) s)

/-- TEQ with a register shifted by an immediate amount (41_data_processing.md R265, R279). -/
def execTeqShift (c : Cond) (rn rd : Reg) (o : ShiftImm) (s : State) : Outcome :=
  conditionally c s (testResult rd (alu .teq (s.readReg 8#32 rn) (shiftOperand o s) s.cpsr) s)

/-- TEQ with a register shifted by a register (41_data_processing.md R265, R279). -/
def execTeqRegShift (c : Cond) (rn rd : Reg) (o : ShiftReg) (s : State) : Outcome :=
  conditionally c s (refuseIf (o.rs == 15#4) .shiftAmountR15
    (testResult rd (alu .teq (s.readReg 12#32 rn) (regShiftOperand o s) s.cpsr) s))

/-- CMP with a rotated immediate (41_data_processing.md R265, R280). -/
def execCmpImm (c : Cond) (rn rd : Reg) (o : RotImm) (s : State) : Outcome :=
  conditionally c s (testResult rd (alu .cmp (s.readReg 8#32 rn) (immOperand o s) s.cpsr) s)

/-- CMP with a register shifted by an immediate amount (41_data_processing.md R265, R280). -/
def execCmpShift (c : Cond) (rn rd : Reg) (o : ShiftImm) (s : State) : Outcome :=
  conditionally c s (testResult rd (alu .cmp (s.readReg 8#32 rn) (shiftOperand o s) s.cpsr) s)

/-- CMP with a register shifted by a register (41_data_processing.md R265, R280). -/
def execCmpRegShift (c : Cond) (rn rd : Reg) (o : ShiftReg) (s : State) : Outcome :=
  conditionally c s (refuseIf (o.rs == 15#4) .shiftAmountR15
    (testResult rd (alu .cmp (s.readReg 12#32 rn) (regShiftOperand o s) s.cpsr) s))

/-- CMN with a rotated immediate (41_data_processing.md R265, R281). -/
def execCmnImm (c : Cond) (rn rd : Reg) (o : RotImm) (s : State) : Outcome :=
  conditionally c s (testResult rd (alu .cmn (s.readReg 8#32 rn) (immOperand o s) s.cpsr) s)

/-- CMN with a register shifted by an immediate amount (41_data_processing.md R265, R281). -/
def execCmnShift (c : Cond) (rn rd : Reg) (o : ShiftImm) (s : State) : Outcome :=
  conditionally c s (testResult rd (alu .cmn (s.readReg 8#32 rn) (shiftOperand o s) s.cpsr) s)

/-- CMN with a register shifted by a register (41_data_processing.md R265, R281). -/
def execCmnRegShift (c : Cond) (rn rd : Reg) (o : ShiftReg) (s : State) : Outcome :=
  conditionally c s (refuseIf (o.rs == 15#4) .shiftAmountR15
    (testResult rd (alu .cmn (s.readReg 12#32 rn) (regShiftOperand o s) s.cpsr) s))

/-- ORR with a rotated immediate (41_data_processing.md R265, R282). -/
def execOrrImm (c : Cond) (sf : Bool) (rn rd : Reg) (o : RotImm) (s : State) : Outcome :=
  conditionally c s (writeResult sf rd (alu .orr (s.readReg 8#32 rn) (immOperand o s) s.cpsr) s)

/-- ORR with a register shifted by an immediate amount (41_data_processing.md R265, R282). -/
def execOrrShift (c : Cond) (sf : Bool) (rn rd : Reg) (o : ShiftImm) (s : State) : Outcome :=
  conditionally c s (writeResult sf rd (alu .orr (s.readReg 8#32 rn) (shiftOperand o s) s.cpsr) s)

/-- ORR with a register shifted by a register (41_data_processing.md R265, R282). -/
def execOrrRegShift (c : Cond) (sf : Bool) (rn rd : Reg) (o : ShiftReg) (s : State) : Outcome :=
  conditionally c s (refuseIf (o.rs == 15#4) .shiftAmountR15
    (writeResult sf rd (alu .orr (s.readReg 12#32 rn) (regShiftOperand o s) s.cpsr) s))

/-- MOV with a rotated immediate (41_data_processing.md R265, R283). Rn is not read (R263). -/
def execMovImm (c : Cond) (sf : Bool) (_rn rd : Reg) (o : RotImm) (s : State) : Outcome :=
  conditionally c s (writeResult sf rd (alu .mov 0#32 (immOperand o s) s.cpsr) s)

/-- MOV with a register shifted by an immediate amount (41_data_processing.md R265, R283). Rn is not read (R263). -/
def execMovShift (c : Cond) (sf : Bool) (_rn rd : Reg) (o : ShiftImm) (s : State) : Outcome :=
  conditionally c s (writeResult sf rd (alu .mov 0#32 (shiftOperand o s) s.cpsr) s)

/-- MOV with a register shifted by a register (41_data_processing.md R265, R283). Rn is not read (R263). -/
def execMovRegShift (c : Cond) (sf : Bool) (_rn rd : Reg) (o : ShiftReg) (s : State) : Outcome :=
  conditionally c s (refuseIf (o.rs == 15#4) .shiftAmountR15
    (writeResult sf rd (alu .mov 0#32 (regShiftOperand o s) s.cpsr) s))

/-- BIC with a rotated immediate (41_data_processing.md R265, R284). -/
def execBicImm (c : Cond) (sf : Bool) (rn rd : Reg) (o : RotImm) (s : State) : Outcome :=
  conditionally c s (writeResult sf rd (alu .bic (s.readReg 8#32 rn) (immOperand o s) s.cpsr) s)

/-- BIC with a register shifted by an immediate amount (41_data_processing.md R265, R284). -/
def execBicShift (c : Cond) (sf : Bool) (rn rd : Reg) (o : ShiftImm) (s : State) : Outcome :=
  conditionally c s (writeResult sf rd (alu .bic (s.readReg 8#32 rn) (shiftOperand o s) s.cpsr) s)

/-- BIC with a register shifted by a register (41_data_processing.md R265, R284). -/
def execBicRegShift (c : Cond) (sf : Bool) (rn rd : Reg) (o : ShiftReg) (s : State) : Outcome :=
  conditionally c s (refuseIf (o.rs == 15#4) .shiftAmountR15
    (writeResult sf rd (alu .bic (s.readReg 12#32 rn) (regShiftOperand o s) s.cpsr) s))

/-- MVN with a rotated immediate (41_data_processing.md R265, R285). Rn is not read (R263). -/
def execMvnImm (c : Cond) (sf : Bool) (_rn rd : Reg) (o : RotImm) (s : State) : Outcome :=
  conditionally c s (writeResult sf rd (alu .mvn 0#32 (immOperand o s) s.cpsr) s)

/-- MVN with a register shifted by an immediate amount (41_data_processing.md R265, R285). Rn is not read (R263). -/
def execMvnShift (c : Cond) (sf : Bool) (_rn rd : Reg) (o : ShiftImm) (s : State) : Outcome :=
  conditionally c s (writeResult sf rd (alu .mvn 0#32 (shiftOperand o s) s.cpsr) s)

/-- MVN with a register shifted by a register (41_data_processing.md R265, R285). Rn is not read (R263). -/
def execMvnRegShift (c : Cond) (sf : Bool) (_rn rd : Reg) (o : ShiftReg) (s : State) : Outcome :=
  conditionally c s (refuseIf (o.rs == 15#4) .shiftAmountR15
    (writeResult sf rd (alu .mvn 0#32 (regShiftOperand o s) s.cpsr) s))

end Sys2Proof.Machine
end

