-- ==== Sys2Proof/Machine/SingleTransfer.lean ====
section
/-! DEFINITION. LDR, LDRB, STR, STRB and their T forms (44_single_data_transfer.md R350 to R362). -/

namespace Sys2Proof.Machine

/-- The end of a load (R355, R356): on an abort the base is still written back and the data abort is taken; otherwise the
base is written back and then Rd, or the PC, is loaded. -/
def finishLoad (r : MemResult Word) (x : Indexed) (rn rd : Reg) (s : State) : Outcome :=
  match r with
  | .done d s1 =>
    if rd = 15#4 then writePc d (s1.writeBase rn x) else advance ((s1.writeBase rn x).setReg rd d)
  | .aborted => dataAbort (s.writeBase rn x)
  | .fault f => .fault f
  | .refused f => .refused f

/-- The end of a store (R355, R358): on an abort the base is still written back and the data abort is taken. -/
def finishStore (r : MemResult Unit) (x : Indexed) (rn : Reg) (s : State) : Outcome :=
  match r with
  | .done _ s1 => advance (s1.writeBase rn x)
  | .aborted => dataAbort (s.writeBase rn x)
  | .fault f => .fault f
  | .refused f => .refused f

/-- The restrictions on write-back (R352, R354), where the form writes the base back. -/
def writeBackChecked (wb : Bool) (rn rd : Reg) (body : Outcome) : Outcome :=
  refuseIf (wb && rn == 15#4) .writeBackR15 (refuseIf (wb && rd == rn) .writeBackRdRn body)

/-- The restrictions of a pre-indexed register form (R352, R354). -/
def preRegChecked (w : Bool) (rn rd rm : Reg) (body : Outcome) : Outcome :=
  refuseIf (rm == 15#4) .offsetR15 (writeBackChecked w rn rd body)

/-- The restrictions of a post-indexed register form (R352 to R354). -/
def postRegChecked (rn rd rm : Reg) (body : Outcome) : Outcome :=
  refuseIf (rm == 15#4) .offsetR15
    (refuseIf (rm == rn) .postIndexedRmRn (writeBackChecked true rn rd body))

/-- LDR, immediate offset, pre-indexed (R356). -/
def execLdrImmPre (c : Cond) (u w : Bool) (rn rd : Reg) (off : BitVec 12) (s : State) : Outcome :=
  let x := preIndexed u w (s.readReg 8#32 rn) (off.setWidth 32)
  conditionally c s (writeBackChecked w rn rd
    (finishLoad (loadWord x.addr s.privileged s) x rn rd s))

/-- LDR, register offset, pre-indexed (R356). -/
def execLdrRegPre (c : Cond) (u w : Bool) (rn rd : Reg) (o : ShiftImm) (s : State) : Outcome :=
  let x := preIndexed u w (s.readReg 8#32 rn) (shiftedOffset o s)
  conditionally c s (preRegChecked w rn rd o.rm
    (finishLoad (loadWord x.addr s.privileged s) x rn rd s))

/-- LDR, immediate offset, post-indexed (R356). -/
def execLdrImmPost (c : Cond) (u : Bool) (rn rd : Reg) (off : BitVec 12) (s : State) : Outcome :=
  let x := postIndexed u (s.readReg 8#32 rn) (off.setWidth 32)
  conditionally c s (writeBackChecked true rn rd
    (finishLoad (loadWord x.addr s.privileged s) x rn rd s))

/-- LDR, register offset, post-indexed (R356). -/
def execLdrRegPost (c : Cond) (u : Bool) (rn rd : Reg) (o : ShiftImm) (s : State) : Outcome :=
  let x := postIndexed u (s.readReg 8#32 rn) (shiftedOffset o s)
  conditionally c s (postRegChecked rn rd o.rm
    (finishLoad (loadWord x.addr s.privileged s) x rn rd s))

/-- LDRT, immediate offset (R356). The transfer is marked non-privileged (R360, D16). -/
def execLdrtImm (c : Cond) (u : Bool) (rn rd : Reg) (off : BitVec 12) (s : State) : Outcome :=
  let x := postIndexed u (s.readReg 8#32 rn) (off.setWidth 32)
  conditionally c s (writeBackChecked true rn rd
    (finishLoad (loadWord x.addr false s) x rn rd s))

/-- LDRT, register offset (R356). The transfer is marked non-privileged (R360, D16). -/
def execLdrtReg (c : Cond) (u : Bool) (rn rd : Reg) (o : ShiftImm) (s : State) : Outcome :=
  let x := postIndexed u (s.readReg 8#32 rn) (shiftedOffset o s)
  conditionally c s (postRegChecked rn rd o.rm
    (finishLoad (loadWord x.addr false s) x rn rd s))

/-- LDRB, immediate offset, pre-indexed (R357). -/
def execLdrbImmPre (c : Cond) (u w : Bool) (rn rd : Reg) (off : BitVec 12) (s : State) : Outcome :=
  let x := preIndexed u w (s.readReg 8#32 rn) (off.setWidth 32)
  conditionally c s (writeBackChecked w rn rd
    (finishLoad (loadByte x.addr s.privileged s) x rn rd s))

/-- LDRB, register offset, pre-indexed (R357). -/
def execLdrbRegPre (c : Cond) (u w : Bool) (rn rd : Reg) (o : ShiftImm) (s : State) : Outcome :=
  let x := preIndexed u w (s.readReg 8#32 rn) (shiftedOffset o s)
  conditionally c s (preRegChecked w rn rd o.rm
    (finishLoad (loadByte x.addr s.privileged s) x rn rd s))

/-- LDRB, immediate offset, post-indexed (R357). -/
def execLdrbImmPost (c : Cond) (u : Bool) (rn rd : Reg) (off : BitVec 12) (s : State) : Outcome :=
  let x := postIndexed u (s.readReg 8#32 rn) (off.setWidth 32)
  conditionally c s (writeBackChecked true rn rd
    (finishLoad (loadByte x.addr s.privileged s) x rn rd s))

/-- LDRB, register offset, post-indexed (R357). -/
def execLdrbRegPost (c : Cond) (u : Bool) (rn rd : Reg) (o : ShiftImm) (s : State) : Outcome :=
  let x := postIndexed u (s.readReg 8#32 rn) (shiftedOffset o s)
  conditionally c s (postRegChecked rn rd o.rm
    (finishLoad (loadByte x.addr s.privileged s) x rn rd s))

/-- LDRBT, immediate offset (R357). The transfer is marked non-privileged (R360, D16). -/
def execLdrbtImm (c : Cond) (u : Bool) (rn rd : Reg) (off : BitVec 12) (s : State) : Outcome :=
  let x := postIndexed u (s.readReg 8#32 rn) (off.setWidth 32)
  conditionally c s (writeBackChecked true rn rd
    (finishLoad (loadByte x.addr false s) x rn rd s))

/-- LDRBT, register offset (R357). The transfer is marked non-privileged (R360, D16). -/
def execLdrbtReg (c : Cond) (u : Bool) (rn rd : Reg) (o : ShiftImm) (s : State) : Outcome :=
  let x := postIndexed u (s.readReg 8#32 rn) (shiftedOffset o s)
  conditionally c s (postRegChecked rn rd o.rm
    (finishLoad (loadByte x.addr false s) x rn rd s))

/-- STR, immediate offset, pre-indexed (R358). -/
def execStrImmPre (c : Cond) (u w : Bool) (rn rd : Reg) (off : BitVec 12) (s : State) : Outcome :=
  let x := preIndexed u w (s.readReg 8#32 rn) (off.setWidth 32)
  conditionally c s (writeBackChecked w rn rd
    (finishStore (storeWord x.addr (s.readReg 12#32 rd) s.privileged s) x rn s))

/-- STR, register offset, pre-indexed (R358). -/
def execStrRegPre (c : Cond) (u w : Bool) (rn rd : Reg) (o : ShiftImm) (s : State) : Outcome :=
  let x := preIndexed u w (s.readReg 8#32 rn) (shiftedOffset o s)
  conditionally c s (preRegChecked w rn rd o.rm
    (finishStore (storeWord x.addr (s.readReg 12#32 rd) s.privileged s) x rn s))

/-- STR, immediate offset, post-indexed (R358). -/
def execStrImmPost (c : Cond) (u : Bool) (rn rd : Reg) (off : BitVec 12) (s : State) : Outcome :=
  let x := postIndexed u (s.readReg 8#32 rn) (off.setWidth 32)
  conditionally c s (writeBackChecked true rn rd
    (finishStore (storeWord x.addr (s.readReg 12#32 rd) s.privileged s) x rn s))

/-- STR, register offset, post-indexed (R358). -/
def execStrRegPost (c : Cond) (u : Bool) (rn rd : Reg) (o : ShiftImm) (s : State) : Outcome :=
  let x := postIndexed u (s.readReg 8#32 rn) (shiftedOffset o s)
  conditionally c s (postRegChecked rn rd o.rm
    (finishStore (storeWord x.addr (s.readReg 12#32 rd) s.privileged s) x rn s))

/-- STRT, immediate offset (R358). The transfer is marked non-privileged (R360, D16). -/
def execStrtImm (c : Cond) (u : Bool) (rn rd : Reg) (off : BitVec 12) (s : State) : Outcome :=
  let x := postIndexed u (s.readReg 8#32 rn) (off.setWidth 32)
  conditionally c s (writeBackChecked true rn rd
    (finishStore (storeWord x.addr (s.readReg 12#32 rd) false s) x rn s))

/-- STRT, register offset (R358). The transfer is marked non-privileged (R360, D16). -/
def execStrtReg (c : Cond) (u : Bool) (rn rd : Reg) (o : ShiftImm) (s : State) : Outcome :=
  let x := postIndexed u (s.readReg 8#32 rn) (shiftedOffset o s)
  conditionally c s (postRegChecked rn rd o.rm
    (finishStore (storeWord x.addr (s.readReg 12#32 rd) false s) x rn s))

/-- STRB, immediate offset, pre-indexed (R359). -/
def execStrbImmPre (c : Cond) (u w : Bool) (rn rd : Reg) (off : BitVec 12) (s : State) : Outcome :=
  let x := preIndexed u w (s.readReg 8#32 rn) (off.setWidth 32)
  conditionally c s (writeBackChecked w rn rd
    (finishStore (storeByte x.addr (s.readReg 12#32 rd) s.privileged s) x rn s))

/-- STRB, register offset, pre-indexed (R359). -/
def execStrbRegPre (c : Cond) (u w : Bool) (rn rd : Reg) (o : ShiftImm) (s : State) : Outcome :=
  let x := preIndexed u w (s.readReg 8#32 rn) (shiftedOffset o s)
  conditionally c s (preRegChecked w rn rd o.rm
    (finishStore (storeByte x.addr (s.readReg 12#32 rd) s.privileged s) x rn s))

/-- STRB, immediate offset, post-indexed (R359). -/
def execStrbImmPost (c : Cond) (u : Bool) (rn rd : Reg) (off : BitVec 12) (s : State) : Outcome :=
  let x := postIndexed u (s.readReg 8#32 rn) (off.setWidth 32)
  conditionally c s (writeBackChecked true rn rd
    (finishStore (storeByte x.addr (s.readReg 12#32 rd) s.privileged s) x rn s))

/-- STRB, register offset, post-indexed (R359). -/
def execStrbRegPost (c : Cond) (u : Bool) (rn rd : Reg) (o : ShiftImm) (s : State) : Outcome :=
  let x := postIndexed u (s.readReg 8#32 rn) (shiftedOffset o s)
  conditionally c s (postRegChecked rn rd o.rm
    (finishStore (storeByte x.addr (s.readReg 12#32 rd) s.privileged s) x rn s))

/-- STRBT, immediate offset (R359). The transfer is marked non-privileged (R360, D16). -/
def execStrbtImm (c : Cond) (u : Bool) (rn rd : Reg) (off : BitVec 12) (s : State) : Outcome :=
  let x := postIndexed u (s.readReg 8#32 rn) (off.setWidth 32)
  conditionally c s (writeBackChecked true rn rd
    (finishStore (storeByte x.addr (s.readReg 12#32 rd) false s) x rn s))

/-- STRBT, register offset (R359). The transfer is marked non-privileged (R360, D16). -/
def execStrbtReg (c : Cond) (u : Bool) (rn rd : Reg) (o : ShiftImm) (s : State) : Outcome :=
  let x := postIndexed u (s.readReg 8#32 rn) (shiftedOffset o s)
  conditionally c s (postRegChecked rn rd o.rm
    (finishStore (storeByte x.addr (s.readReg 12#32 rd) false s) x rn s))

end Sys2Proof.Machine
end

