-- ==== Sys2Proof/Machine/HalfwordTransfer.lean ====
section
/-! DEFINITION. LDRH, STRH, LDRSB and LDRSH (44_single_data_transfer.md R363 to R373). -/

namespace Sys2Proof.Machine

/-- The restrictions of the halfword class with an immediate offset (R363, R369, R354). -/
def halfImmChecked (p w : Bool) (rn rd : Reg) (body : Outcome) : Outcome :=
  refuseIf (!p && w) .halfwordPostW (writeBackChecked (!p || w) rn rd body)

/-- The restrictions of the halfword class with a register offset (R363, R369, R354, R353). -/
def halfRegChecked (p w : Bool) (rn rd rm : Reg) (body : Outcome) : Outcome :=
  refuseIf (rm == 15#4) .offsetR15
    (refuseIf (!p && w) .halfwordPostW
      (writeBackChecked (!p || w) rn rd (refuseIf (!p && rm == rn) .postIndexedRmRn body)))

/-- STRH, register offset (R368). -/
def execStrhReg (c : Cond) (p u w : Bool) (rn rd rm : Reg) (s : State) : Outcome :=
  let x := indexedBy p u w (s.readReg 8#32 rn) (s.readReg 8#32 rm)
  conditionally c s (halfRegChecked p w rn rd rm
    (finishStore (storeHalf x.addr (s.readReg 12#32 rd) s.privileged s) x rn s))

/-- STRH, immediate offset (R368). -/
def execStrhImm (c : Cond) (p u w : Bool) (rn rd : Reg) (off : BitVec 8) (s : State) : Outcome :=
  let x := indexedBy p u w (s.readReg 8#32 rn) (off.setWidth 32)
  conditionally c s (halfImmChecked p w rn rd
    (finishStore (storeHalf x.addr (s.readReg 12#32 rd) s.privileged s) x rn s))

/-- LDRH, register offset (R364). -/
def execLdrhReg (c : Cond) (p u w : Bool) (rn rd rm : Reg) (s : State) : Outcome :=
  let x := indexedBy p u w (s.readReg 8#32 rn) (s.readReg 8#32 rm)
  conditionally c s (halfRegChecked p w rn rd rm
    (finishLoad (loadHalf x.addr s.privileged s) x rn rd s))

/-- LDRH, immediate offset (R364). -/
def execLdrhImm (c : Cond) (p u w : Bool) (rn rd : Reg) (off : BitVec 8) (s : State) : Outcome :=
  let x := indexedBy p u w (s.readReg 8#32 rn) (off.setWidth 32)
  conditionally c s (halfImmChecked p w rn rd
    (finishLoad (loadHalf x.addr s.privileged s) x rn rd s))

/-- LDRSB, register offset (R365). -/
def execLdrsbReg (c : Cond) (p u w : Bool) (rn rd rm : Reg) (s : State) : Outcome :=
  let x := indexedBy p u w (s.readReg 8#32 rn) (s.readReg 8#32 rm)
  conditionally c s (halfRegChecked p w rn rd rm
    (finishLoad (loadSignedByte x.addr s.privileged s) x rn rd s))

/-- LDRSB, immediate offset (R365). -/
def execLdrsbImm (c : Cond) (p u w : Bool) (rn rd : Reg) (off : BitVec 8) (s : State) : Outcome :=
  let x := indexedBy p u w (s.readReg 8#32 rn) (off.setWidth 32)
  conditionally c s (halfImmChecked p w rn rd
    (finishLoad (loadSignedByte x.addr s.privileged s) x rn rd s))

/-- LDRSH, register offset (R367). -/
def execLdrshReg (c : Cond) (p u w : Bool) (rn rd rm : Reg) (s : State) : Outcome :=
  let x := indexedBy p u w (s.readReg 8#32 rn) (s.readReg 8#32 rm)
  conditionally c s (halfRegChecked p w rn rd rm
    (finishLoad (loadSignedHalf x.addr s.privileged s) x rn rd s))

/-- LDRSH, immediate offset (R367). -/
def execLdrshImm (c : Cond) (p u w : Bool) (rn rd : Reg) (off : BitVec 8) (s : State) : Outcome :=
  let x := indexedBy p u w (s.readReg 8#32 rn) (off.setWidth 32)
  conditionally c s (halfImmChecked p w rn rd
    (finishLoad (loadSignedHalf x.addr s.privileged s) x rn rd s))

end Sys2Proof.Machine
end

