-- ==== Sys2Proof/Machine/Multiply.lean ====
section
/-! DEFINITION. MUL, MLA and the long multiplies (43_multiply.md). -/

namespace Sys2Proof.Machine

/-- The end of MUL and MLA (R321, R322, R324). -/
def writeProduct (sf : Bool) (rd : Reg) (r : Word) (s : State) : Outcome :=
  if sf then advance ((s.setReg rd r).setMulFlags r) else advance (s.setReg rd r)

/-- The end of the long multiplies (R330, R336): the low word to RdLo, the high word to RdHi. -/
def writeLongProduct (sf : Bool) (rdHi rdLo : Reg) (p : BitVec 64) (s : State) : Outcome :=
  if sf then
    advance (((s.setReg rdLo (p.extractLsb' 0 32)).setReg rdHi (p.extractLsb' 32 32)).setLongFlags p)
  else advance ((s.setReg rdLo (p.extractLsb' 0 32)).setReg rdHi (p.extractLsb' 32 32))

/-- `LongChecks` (R330, R335). -/
def longChecked (rdHi rdLo rs rm : Reg) (body : Outcome) : Outcome :=
  refuseIf (rdHi == 15#4 || rdLo == 15#4 || rm == 15#4 || rs == 15#4) .longR15
    (refuseIf (rdHi == rdLo || rdHi == rm || rdLo == rm) .longNotDistinct body)

/-- The 64-bit number RdHi :: RdLo (R332). -/
def accumulator (rdHi rdLo : Reg) (s : State) : BitVec 64 :=
  s.readReg 8#32 rdHi ++ s.readReg 8#32 rdLo

/-- The unsigned product of two registers (R331). -/
def unsignedProduct (rs rm : Reg) (s : State) : BitVec 64 :=
  BitVec.ofNat 64 ((s.readReg 8#32 rm).toNat * (s.readReg 8#32 rs).toNat)

/-- The signed product of two registers (R333). -/
def signedProduct (rs rm : Reg) (s : State) : BitVec 64 :=
  BitVec.ofInt 64 ((s.readReg 8#32 rm).toInt * (s.readReg 8#32 rs).toInt)

/-- MUL (R321). The Rn field is ignored (U17). -/
def execMul (c : Cond) (sf : Bool) (rd _rn rs rm : Reg) (s : State) : Outcome :=
  conditionally c s
    (refuseIf (rd == 15#4 || rm == 15#4 || rs == 15#4) .multiplyR15
      (refuseIf (rd == rm) .multiplyRdRm
        (writeProduct sf rd (s.readReg 8#32 rm * s.readReg 8#32 rs) s)))

/-- MLA (R322). -/
def execMla (c : Cond) (sf : Bool) (rd rn rs rm : Reg) (s : State) : Outcome :=
  conditionally c s
    (refuseIf (rd == 15#4 || rm == 15#4 || rs == 15#4 || rn == 15#4) .multiplyR15
      (refuseIf (rd == rm) .multiplyRdRm
        (writeProduct sf rd (s.readReg 8#32 rm * s.readReg 8#32 rs + s.readReg 8#32 rn) s)))

/-- UMULL (R331). -/
def execUmull (c : Cond) (sf : Bool) (rdHi rdLo rs rm : Reg) (s : State) : Outcome :=
  conditionally c s
    (longChecked rdHi rdLo rs rm (writeLongProduct sf rdHi rdLo (unsignedProduct rs rm s) s))

/-- UMLAL (R332): modulo 2^64. -/
def execUmlal (c : Cond) (sf : Bool) (rdHi rdLo rs rm : Reg) (s : State) : Outcome :=
  conditionally c s
    (longChecked rdHi rdLo rs rm
      (writeLongProduct sf rdHi rdLo (unsignedProduct rs rm s + accumulator rdHi rdLo s) s))

/-- SMULL (R333). -/
def execSmull (c : Cond) (sf : Bool) (rdHi rdLo rs rm : Reg) (s : State) : Outcome :=
  conditionally c s
    (longChecked rdHi rdLo rs rm (writeLongProduct sf rdHi rdLo (signedProduct rs rm s) s))

/-- SMLAL (R334): modulo 2^64. -/
def execSmlal (c : Cond) (sf : Bool) (rdHi rdLo rs rm : Reg) (s : State) : Outcome :=
  conditionally c s
    (longChecked rdHi rdLo rs rm
      (writeLongProduct sf rdHi rdLo (signedProduct rs rm s + accumulator rdHi rdLo s) s))

end Sys2Proof.Machine
end

