-- ==== Sys2Proof/Machine/PsrTransfer.lean ====
section
/-! DEFINITION. MRS and MSR (42_psr_transfer.md). -/

namespace Sys2Proof.Machine

/-- MSR to the whole CPSR (R302, R305, R306, R309, R310): in User mode only the flags are written; otherwise the flags, I, F
and M, and a source whose bit 5 differs from T is refused. -/
def writeWholeCpsr (v : Word) (s : State) : Outcome :=
  if s.privileged then
    refuseIf (v.getLsbD 5 != s.cpsr.t) .tBitChange (advance { s with cpsr := PSR.ofWord v })
  else advance { s with cpsr := s.cpsr.withFlagsOf v }

/-- An SPSR of the current mode is changed by `f`; refused in User and System mode (R307). -/
def changeSpsr (f : PSR → PSR) (s : State) : Outcome :=
  match s.spsr with
  | none => .refused .noSpsr
  | some p => advance (s.setSpsr (f p))

/-- MSR to the flag bits of the CPSR or the SPSR (R303, R304). -/
def writePsrFlags (pd : Bool) (v : Word) (s : State) : Outcome :=
  if pd then changeSpsr (fun p => p.withFlagsOf v) s
  else advance { s with cpsr := s.cpsr.withFlagsOf v }

/-- The PSR that MRS reads: the SPSR of the current mode if `ps`, else the CPSR (R301). -/
def sourcePsr (ps : Bool) (s : State) : Option PSR :=
  if ps then s.spsr else some s.cpsr

/-- MRS (R301): bits 27:8 are a free value (R309). -/
def execMrs (c : Cond) (ps : Bool) (rd : Reg) (s : State) : Outcome :=
  conditionally c s (refuseIf (rd == 15#4) .psrR15
    (match sourcePsr ps s with
      | none => .refused .noSpsr
      | some p => advance (s.drawn.setReg rd (p.toWord (s.nextDraw 20)))))

/-- MSR, register to the whole PSR (R302). -/
def execMsrReg (c : Cond) (pd : Bool) (rm : Reg) (s : State) : Outcome :=
  conditionally c s (refuseIf (rm == 15#4) .psrR15
    (if pd then changeSpsr (fun _ => PSR.ofWord (s.readReg 8#32 rm)) s
    else writeWholeCpsr (s.readReg 8#32 rm) s))

/-- MSR, register to the flag bits (R303). -/
def execMsrFlagsReg (c : Cond) (pd : Bool) (rm : Reg) (s : State) : Outcome :=
  conditionally c s (refuseIf (rm == 15#4) .psrR15 (writePsrFlags pd (s.readReg 8#32 rm) s))

/-- MSR, immediate to the flag bits (R304). -/
def execMsrFlagsImm (c : Cond) (pd : Bool) (o : RotImm) (s : State) : Outcome :=
  conditionally c s (writePsrFlags pd (rotImmValue o) s)

end Sys2Proof.Machine
end

