-- ==== Sys2Proof/Machine/Swap.lean ====
section
/-! DEFINITION. SWP and SWPB (46_swap_swi.md R430 to R434). -/

namespace Sys2Proof.Machine

/-- A swap as one step (R431 to R433): the read `load`, then the write `store`, then Rd. If either aborts, the swap is
aborted as though it had not been executed. -/
def swap (rd : Reg) (load : State → MemResult Word) (store : State → MemResult Unit) (s : State) : Outcome :=
  match load s with
  | .done d s1 =>
    match store s1 with
    | .done _ s2 => advance (s2.setReg rd d)
    | .aborted => dataAbort s
    | .fault f => .fault f
    | .refused f => .refused f
  | .aborted => dataAbort s
  | .fault f => .fault f
  | .refused f => .refused f

/-- R15 as any operand of a swap is refused (R431). -/
def swapChecked (rn rd rm : Reg) (body : Outcome) : Outcome :=
  refuseIf (rd == 15#4 || rn == 15#4 || rm == 15#4) .swapR15 body

/-- SWP (R431): as LDR, then as STR. -/
def execSwp (c : Cond) (rn rd rm : Reg) (s : State) : Outcome :=
  let a := s.readReg 8#32 rn
  conditionally c s (swapChecked rn rd rm
    (refuseIf (s.refusesUnaligned a) .unalignedWord
      (swap rd (loadWord a s.privileged) (storeWord a (s.readReg 8#32 rm) s.privileged) s)))

/-- SWPB (R431): as LDRB, then as STRB. -/
def execSwpb (c : Cond) (rn rd rm : Reg) (s : State) : Outcome :=
  let a := s.readReg 8#32 rn
  conditionally c s (swapChecked rn rd rm
    (swap rd (loadByte a s.privileged) (storeByte a (s.readReg 8#32 rm) s.privileged) s))

end Sys2Proof.Machine
end

