-- ==== Sys2Proof/Machine/Traps.lean ====
section
/-! DEFINITION. SWI, and the instructions that take the undefined instruction trap (46_swap_swi.md R440, 47_coprocessor_undefined.md
R450 to R456). -/

namespace Sys2Proof.Machine

/-- The Undefined format (R456); the condition comes first (R455, notes/assumptions/22.md). -/
def execUndefined (c : Cond) (_hi : BitVec 20) (_lo : BitVec 4) (s : State) : Outcome :=
  conditionally c s (undefinedTrap s)

/-- LDC (R452). -/
def execLdc (c : Cond) (_p _u _n _w : Bool) (_rn _crd _cp : Reg) (_off : BitVec 8) (s : State) : Outcome :=
  conditionally c s (undefinedTrap s)

/-- STC (R452). -/
def execStc (c : Cond) (_p _u _n _w : Bool) (_rn _crd _cp : Reg) (_off : BitVec 8) (s : State) : Outcome :=
  conditionally c s (undefinedTrap s)

/-- CDP (R451). -/
def execCdp (c : Cond) (_opc : BitVec 4) (_crn _crd _cp : Reg) (_info : BitVec 3) (_crm : Reg) (s : State) : Outcome :=
  conditionally c s (undefinedTrap s)

/-- MCR (R453). -/
def execMcr (c : Cond) (_opc : BitVec 3) (_crn _rd _cp : Reg) (_info : BitVec 3) (_crm : Reg) (s : State) : Outcome :=
  conditionally c s (undefinedTrap s)

/-- MRC (R453). -/
def execMrc (c : Cond) (_opc : BitVec 3) (_crn _rd _cp : Reg) (_info : BitVec 3) (_crm : Reg) (s : State) : Outcome :=
  conditionally c s (undefinedTrap s)

/-- SWI (R440); the comment field is ignored. -/
def execSwi (c : Cond) (_comment : BitVec 24) (s : State) : Outcome :=
  conditionally c s (swiTrap s)

end Sys2Proof.Machine
end

