-- ==== Sys2Proof/Machine/Dispatch.lean ====
section
/-! DEFINITION. Which meaning each instruction has: one arm per constructor of `Instr`. -/

namespace Sys2Proof.Machine

open Sys2Proof

/-- The meaning of an instruction at the state whose PC is its address. -/
def exec (i : Instr) (s : State) : Host.Outcome State Fault Refusal :=
  match i with
  | .bx c rn => Sys2Proof.Machine.execBx c rn s
  | .mrs c ps rd => Sys2Proof.Machine.execMrs c ps rd s
  | .msrReg c pd rm => Sys2Proof.Machine.execMsrReg c pd rm s
  | .msrFlagsReg c pd rm => Sys2Proof.Machine.execMsrFlagsReg c pd rm s
  | .msrFlagsImm c pd o => Sys2Proof.Machine.execMsrFlagsImm c pd o s
  | .mul c sf rd rn rs rm => Sys2Proof.Machine.execMul c sf rd rn rs rm s
  | .mla c sf rd rn rs rm => Sys2Proof.Machine.execMla c sf rd rn rs rm s
  | .umull c sf rdHi rdLo rs rm => Sys2Proof.Machine.execUmull c sf rdHi rdLo rs rm s
  | .umlal c sf rdHi rdLo rs rm => Sys2Proof.Machine.execUmlal c sf rdHi rdLo rs rm s
  | .smull c sf rdHi rdLo rs rm => Sys2Proof.Machine.execSmull c sf rdHi rdLo rs rm s
  | .smlal c sf rdHi rdLo rs rm => Sys2Proof.Machine.execSmlal c sf rdHi rdLo rs rm s
  | .swp c rn rd rm => Sys2Proof.Machine.execSwp c rn rd rm s
  | .swpb c rn rd rm => Sys2Proof.Machine.execSwpb c rn rd rm s
  | .strhReg c p u w rn rd rm => Sys2Proof.Machine.execStrhReg c p u w rn rd rm s
  | .ldrhReg c p u w rn rd rm => Sys2Proof.Machine.execLdrhReg c p u w rn rd rm s
  | .ldrsbReg c p u w rn rd rm => Sys2Proof.Machine.execLdrsbReg c p u w rn rd rm s
  | .ldrshReg c p u w rn rd rm => Sys2Proof.Machine.execLdrshReg c p u w rn rd rm s
  | .strhImm c p u w rn rd off => Sys2Proof.Machine.execStrhImm c p u w rn rd off s
  | .ldrhImm c p u w rn rd off => Sys2Proof.Machine.execLdrhImm c p u w rn rd off s
  | .ldrsbImm c p u w rn rd off => Sys2Proof.Machine.execLdrsbImm c p u w rn rd off s
  | .ldrshImm c p u w rn rd off => Sys2Proof.Machine.execLdrshImm c p u w rn rd off s
  | .andImm c sf rn rd o => Sys2Proof.Machine.execAndImm c sf rn rd o s
  | .andShift c sf rn rd o => Sys2Proof.Machine.execAndShift c sf rn rd o s
  | .andRegShift c sf rn rd o => Sys2Proof.Machine.execAndRegShift c sf rn rd o s
  | .eorImm c sf rn rd o => Sys2Proof.Machine.execEorImm c sf rn rd o s
  | .eorShift c sf rn rd o => Sys2Proof.Machine.execEorShift c sf rn rd o s
  | .eorRegShift c sf rn rd o => Sys2Proof.Machine.execEorRegShift c sf rn rd o s
  | .subImm c sf rn rd o => Sys2Proof.Machine.execSubImm c sf rn rd o s
  | .subShift c sf rn rd o => Sys2Proof.Machine.execSubShift c sf rn rd o s
  | .subRegShift c sf rn rd o => Sys2Proof.Machine.execSubRegShift c sf rn rd o s
  | .rsbImm c sf rn rd o => Sys2Proof.Machine.execRsbImm c sf rn rd o s
  | .rsbShift c sf rn rd o => Sys2Proof.Machine.execRsbShift c sf rn rd o s
  | .rsbRegShift c sf rn rd o => Sys2Proof.Machine.execRsbRegShift c sf rn rd o s
  | .addImm c sf rn rd o => Sys2Proof.Machine.execAddImm c sf rn rd o s
  | .addShift c sf rn rd o => Sys2Proof.Machine.execAddShift c sf rn rd o s
  | .addRegShift c sf rn rd o => Sys2Proof.Machine.execAddRegShift c sf rn rd o s
  | .adcImm c sf rn rd o => Sys2Proof.Machine.execAdcImm c sf rn rd o s
  | .adcShift c sf rn rd o => Sys2Proof.Machine.execAdcShift c sf rn rd o s
  | .adcRegShift c sf rn rd o => Sys2Proof.Machine.execAdcRegShift c sf rn rd o s
  | .sbcImm c sf rn rd o => Sys2Proof.Machine.execSbcImm c sf rn rd o s
  | .sbcShift c sf rn rd o => Sys2Proof.Machine.execSbcShift c sf rn rd o s
  | .sbcRegShift c sf rn rd o => Sys2Proof.Machine.execSbcRegShift c sf rn rd o s
  | .rscImm c sf rn rd o => Sys2Proof.Machine.execRscImm c sf rn rd o s
  | .rscShift c sf rn rd o => Sys2Proof.Machine.execRscShift c sf rn rd o s
  | .rscRegShift c sf rn rd o => Sys2Proof.Machine.execRscRegShift c sf rn rd o s
  | .tstImm c rn rd o => Sys2Proof.Machine.execTstImm c rn rd o s
  | .tstShift c rn rd o => Sys2Proof.Machine.execTstShift c rn rd o s
  | .tstRegShift c rn rd o => Sys2Proof.Machine.execTstRegShift c rn rd o s
  | .teqImm c rn rd o => Sys2Proof.Machine.execTeqImm c rn rd o s
  | .teqShift c rn rd o => Sys2Proof.Machine.execTeqShift c rn rd o s
  | .teqRegShift c rn rd o => Sys2Proof.Machine.execTeqRegShift c rn rd o s
  | .cmpImm c rn rd o => Sys2Proof.Machine.execCmpImm c rn rd o s
  | .cmpShift c rn rd o => Sys2Proof.Machine.execCmpShift c rn rd o s
  | .cmpRegShift c rn rd o => Sys2Proof.Machine.execCmpRegShift c rn rd o s
  | .cmnImm c rn rd o => Sys2Proof.Machine.execCmnImm c rn rd o s
  | .cmnShift c rn rd o => Sys2Proof.Machine.execCmnShift c rn rd o s
  | .cmnRegShift c rn rd o => Sys2Proof.Machine.execCmnRegShift c rn rd o s
  | .orrImm c sf rn rd o => Sys2Proof.Machine.execOrrImm c sf rn rd o s
  | .orrShift c sf rn rd o => Sys2Proof.Machine.execOrrShift c sf rn rd o s
  | .orrRegShift c sf rn rd o => Sys2Proof.Machine.execOrrRegShift c sf rn rd o s
  | .movImm c sf rn rd o => Sys2Proof.Machine.execMovImm c sf rn rd o s
  | .movShift c sf rn rd o => Sys2Proof.Machine.execMovShift c sf rn rd o s
  | .movRegShift c sf rn rd o => Sys2Proof.Machine.execMovRegShift c sf rn rd o s
  | .bicImm c sf rn rd o => Sys2Proof.Machine.execBicImm c sf rn rd o s
  | .bicShift c sf rn rd o => Sys2Proof.Machine.execBicShift c sf rn rd o s
  | .bicRegShift c sf rn rd o => Sys2Proof.Machine.execBicRegShift c sf rn rd o s
  | .mvnImm c sf rn rd o => Sys2Proof.Machine.execMvnImm c sf rn rd o s
  | .mvnShift c sf rn rd o => Sys2Proof.Machine.execMvnShift c sf rn rd o s
  | .mvnRegShift c sf rn rd o => Sys2Proof.Machine.execMvnRegShift c sf rn rd o s
  | .undefined c hi lo => Sys2Proof.Machine.execUndefined c hi lo s
  | .ldrImmPre c u w rn rd off => Sys2Proof.Machine.execLdrImmPre c u w rn rd off s
  | .ldrRegPre c u w rn rd o => Sys2Proof.Machine.execLdrRegPre c u w rn rd o s
  | .ldrImmPost c u rn rd off => Sys2Proof.Machine.execLdrImmPost c u rn rd off s
  | .ldrRegPost c u rn rd o => Sys2Proof.Machine.execLdrRegPost c u rn rd o s
  | .ldrtImm c u rn rd off => Sys2Proof.Machine.execLdrtImm c u rn rd off s
  | .ldrtReg c u rn rd o => Sys2Proof.Machine.execLdrtReg c u rn rd o s
  | .ldrbImmPre c u w rn rd off => Sys2Proof.Machine.execLdrbImmPre c u w rn rd off s
  | .ldrbRegPre c u w rn rd o => Sys2Proof.Machine.execLdrbRegPre c u w rn rd o s
  | .ldrbImmPost c u rn rd off => Sys2Proof.Machine.execLdrbImmPost c u rn rd off s
  | .ldrbRegPost c u rn rd o => Sys2Proof.Machine.execLdrbRegPost c u rn rd o s
  | .ldrbtImm c u rn rd off => Sys2Proof.Machine.execLdrbtImm c u rn rd off s
  | .ldrbtReg c u rn rd o => Sys2Proof.Machine.execLdrbtReg c u rn rd o s
  | .strImmPre c u w rn rd off => Sys2Proof.Machine.execStrImmPre c u w rn rd off s
  | .strRegPre c u w rn rd o => Sys2Proof.Machine.execStrRegPre c u w rn rd o s
  | .strImmPost c u rn rd off => Sys2Proof.Machine.execStrImmPost c u rn rd off s
  | .strRegPost c u rn rd o => Sys2Proof.Machine.execStrRegPost c u rn rd o s
  | .strtImm c u rn rd off => Sys2Proof.Machine.execStrtImm c u rn rd off s
  | .strtReg c u rn rd o => Sys2Proof.Machine.execStrtReg c u rn rd o s
  | .strbImmPre c u w rn rd off => Sys2Proof.Machine.execStrbImmPre c u w rn rd off s
  | .strbRegPre c u w rn rd o => Sys2Proof.Machine.execStrbRegPre c u w rn rd o s
  | .strbImmPost c u rn rd off => Sys2Proof.Machine.execStrbImmPost c u rn rd off s
  | .strbRegPost c u rn rd o => Sys2Proof.Machine.execStrbRegPost c u rn rd o s
  | .strbtImm c u rn rd off => Sys2Proof.Machine.execStrbtImm c u rn rd off s
  | .strbtReg c u rn rd o => Sys2Proof.Machine.execStrbtReg c u rn rd o s
  | .ldmRestore c p u w rn list => Sys2Proof.Machine.execLdmRestore c p u w rn list s
  | .ldmUser c p u w rn list => Sys2Proof.Machine.execLdmUser c p u w rn list s
  | .stmUser c p u w rn list => Sys2Proof.Machine.execStmUser c p u w rn list s
  | .ldmda c w rn list => Sys2Proof.Machine.execLdmda c w rn list s
  | .ldmia c w rn list => Sys2Proof.Machine.execLdmia c w rn list s
  | .ldmdb c w rn list => Sys2Proof.Machine.execLdmdb c w rn list s
  | .ldmib c w rn list => Sys2Proof.Machine.execLdmib c w rn list s
  | .stmda c w rn list => Sys2Proof.Machine.execStmda c w rn list s
  | .stmia c w rn list => Sys2Proof.Machine.execStmia c w rn list s
  | .stmdb c w rn list => Sys2Proof.Machine.execStmdb c w rn list s
  | .stmib c w rn list => Sys2Proof.Machine.execStmib c w rn list s
  | .b c off => Sys2Proof.Machine.execB c off s
  | .bl c off => Sys2Proof.Machine.execBl c off s
  | .ldc c p u n w rn crd cp off => Sys2Proof.Machine.execLdc c p u n w rn crd cp off s
  | .stc c p u n w rn crd cp off => Sys2Proof.Machine.execStc c p u n w rn crd cp off s
  | .cdp c opc crn crd cp info crm => Sys2Proof.Machine.execCdp c opc crn crd cp info crm s
  | .mcr c opc crn rd cp info crm => Sys2Proof.Machine.execMcr c opc crn rd cp info crm s
  | .mrc c opc crn rd cp info crm => Sys2Proof.Machine.execMrc c opc crn rd cp info crm s
  | .swi c comment => Sys2Proof.Machine.execSwi c comment s

end Sys2Proof.Machine
end

