-- ==== Sys2Proof/Machine/Hazards.lean ====
section
/-! DEFINITION. The condition of each instruction, the registers it reads, and the one hazard of the manual: a banked
register read by the instruction after a user-bank LDM (70_reset_and_hazards.md R621). -/

namespace Sys2Proof

/-- The condition field of an instruction (30_encoding.md R170). -/
def Instr.cond : Instr → Cond
  | .bx c _ => c
  | .mrs c _ _ => c
  | .msrReg c _ _ => c
  | .msrFlagsReg c _ _ => c
  | .msrFlagsImm c _ _ => c
  | .mul c _ _ _ _ _ => c
  | .mla c _ _ _ _ _ => c
  | .umull c _ _ _ _ _ => c
  | .umlal c _ _ _ _ _ => c
  | .smull c _ _ _ _ _ => c
  | .smlal c _ _ _ _ _ => c
  | .swp c _ _ _ => c
  | .swpb c _ _ _ => c
  | .strhReg c _ _ _ _ _ _ => c
  | .ldrhReg c _ _ _ _ _ _ => c
  | .ldrsbReg c _ _ _ _ _ _ => c
  | .ldrshReg c _ _ _ _ _ _ => c
  | .strhImm c _ _ _ _ _ _ => c
  | .ldrhImm c _ _ _ _ _ _ => c
  | .ldrsbImm c _ _ _ _ _ _ => c
  | .ldrshImm c _ _ _ _ _ _ => c
  | .andImm c _ _ _ _ => c
  | .andShift c _ _ _ _ => c
  | .andRegShift c _ _ _ _ => c
  | .eorImm c _ _ _ _ => c
  | .eorShift c _ _ _ _ => c
  | .eorRegShift c _ _ _ _ => c
  | .subImm c _ _ _ _ => c
  | .subShift c _ _ _ _ => c
  | .subRegShift c _ _ _ _ => c
  | .rsbImm c _ _ _ _ => c
  | .rsbShift c _ _ _ _ => c
  | .rsbRegShift c _ _ _ _ => c
  | .addImm c _ _ _ _ => c
  | .addShift c _ _ _ _ => c
  | .addRegShift c _ _ _ _ => c
  | .adcImm c _ _ _ _ => c
  | .adcShift c _ _ _ _ => c
  | .adcRegShift c _ _ _ _ => c
  | .sbcImm c _ _ _ _ => c
  | .sbcShift c _ _ _ _ => c
  | .sbcRegShift c _ _ _ _ => c
  | .rscImm c _ _ _ _ => c
  | .rscShift c _ _ _ _ => c
  | .rscRegShift c _ _ _ _ => c
  | .tstImm c _ _ _ => c
  | .tstShift c _ _ _ => c
  | .tstRegShift c _ _ _ => c
  | .teqImm c _ _ _ => c
  | .teqShift c _ _ _ => c
  | .teqRegShift c _ _ _ => c
  | .cmpImm c _ _ _ => c
  | .cmpShift c _ _ _ => c
  | .cmpRegShift c _ _ _ => c
  | .cmnImm c _ _ _ => c
  | .cmnShift c _ _ _ => c
  | .cmnRegShift c _ _ _ => c
  | .orrImm c _ _ _ _ => c
  | .orrShift c _ _ _ _ => c
  | .orrRegShift c _ _ _ _ => c
  | .movImm c _ _ _ _ => c
  | .movShift c _ _ _ _ => c
  | .movRegShift c _ _ _ _ => c
  | .bicImm c _ _ _ _ => c
  | .bicShift c _ _ _ _ => c
  | .bicRegShift c _ _ _ _ => c
  | .mvnImm c _ _ _ _ => c
  | .mvnShift c _ _ _ _ => c
  | .mvnRegShift c _ _ _ _ => c
  | .undefined c _ _ => c
  | .ldrImmPre c _ _ _ _ _ => c
  | .ldrRegPre c _ _ _ _ _ => c
  | .ldrImmPost c _ _ _ _ => c
  | .ldrRegPost c _ _ _ _ => c
  | .ldrtImm c _ _ _ _ => c
  | .ldrtReg c _ _ _ _ => c
  | .ldrbImmPre c _ _ _ _ _ => c
  | .ldrbRegPre c _ _ _ _ _ => c
  | .ldrbImmPost c _ _ _ _ => c
  | .ldrbRegPost c _ _ _ _ => c
  | .ldrbtImm c _ _ _ _ => c
  | .ldrbtReg c _ _ _ _ => c
  | .strImmPre c _ _ _ _ _ => c
  | .strRegPre c _ _ _ _ _ => c
  | .strImmPost c _ _ _ _ => c
  | .strRegPost c _ _ _ _ => c
  | .strtImm c _ _ _ _ => c
  | .strtReg c _ _ _ _ => c
  | .strbImmPre c _ _ _ _ _ => c
  | .strbRegPre c _ _ _ _ _ => c
  | .strbImmPost c _ _ _ _ => c
  | .strbRegPost c _ _ _ _ => c
  | .strbtImm c _ _ _ _ => c
  | .strbtReg c _ _ _ _ => c
  | .ldmRestore c _ _ _ _ _ => c
  | .ldmUser c _ _ _ _ _ => c
  | .stmUser c _ _ _ _ _ => c
  | .ldmda c _ _ _ => c
  | .ldmia c _ _ _ => c
  | .ldmdb c _ _ _ => c
  | .ldmib c _ _ _ => c
  | .stmda c _ _ _ => c
  | .stmia c _ _ _ => c
  | .stmdb c _ _ _ => c
  | .stmib c _ _ _ => c
  | .b c _ => c
  | .bl c _ => c
  | .ldc c _ _ _ _ _ _ _ _ => c
  | .stc c _ _ _ _ _ _ _ _ => c
  | .cdp c _ _ _ _ _ _ => c
  | .mcr c _ _ _ _ _ _ => c
  | .mrc c _ _ _ _ _ _ => c
  | .swi c _ => c

/-- The register numbers that an instruction reads in the current mode's bank (R15, which is not banked, may be among
them). A user-bank transfer reads its base here; its list names User registers. -/
def Instr.reads : Instr → List Reg
  | .bx _ rn => [rn]
  | .mrs _ _ _ => []
  | .msrReg _ _ rm => [rm]
  | .msrFlagsReg _ _ rm => [rm]
  | .msrFlagsImm _ _ _ => []
  | .mul _ _ _ _ rs rm => [rm, rs]
  | .mla _ _ _ rn rs rm => [rm, rs, rn]
  | .umull _ _ _ _ rs rm => [rm, rs]
  | .umlal _ _ rdHi rdLo rs rm => [rm, rs, rdHi, rdLo]
  | .smull _ _ _ _ rs rm => [rm, rs]
  | .smlal _ _ rdHi rdLo rs rm => [rm, rs, rdHi, rdLo]
  | .swp _ rn _ rm => [rn, rm]
  | .swpb _ rn _ rm => [rn, rm]
  | .strhReg _ _ _ _ rn rd rm => [rn, rm, rd]
  | .ldrhReg _ _ _ _ rn _ rm => [rn, rm]
  | .ldrsbReg _ _ _ _ rn _ rm => [rn, rm]
  | .ldrshReg _ _ _ _ rn _ rm => [rn, rm]
  | .strhImm _ _ _ _ rn rd _ => [rn, rd]
  | .ldrhImm _ _ _ _ rn _ _ => [rn]
  | .ldrsbImm _ _ _ _ rn _ _ => [rn]
  | .ldrshImm _ _ _ _ rn _ _ => [rn]
  | .andImm _ _ rn _ _ => [rn]
  | .andShift _ _ rn _ o => [rn, o.rm]
  | .andRegShift _ _ rn _ o => [rn, o.rm, o.rs]
  | .eorImm _ _ rn _ _ => [rn]
  | .eorShift _ _ rn _ o => [rn, o.rm]
  | .eorRegShift _ _ rn _ o => [rn, o.rm, o.rs]
  | .subImm _ _ rn _ _ => [rn]
  | .subShift _ _ rn _ o => [rn, o.rm]
  | .subRegShift _ _ rn _ o => [rn, o.rm, o.rs]
  | .rsbImm _ _ rn _ _ => [rn]
  | .rsbShift _ _ rn _ o => [rn, o.rm]
  | .rsbRegShift _ _ rn _ o => [rn, o.rm, o.rs]
  | .addImm _ _ rn _ _ => [rn]
  | .addShift _ _ rn _ o => [rn, o.rm]
  | .addRegShift _ _ rn _ o => [rn, o.rm, o.rs]
  | .adcImm _ _ rn _ _ => [rn]
  | .adcShift _ _ rn _ o => [rn, o.rm]
  | .adcRegShift _ _ rn _ o => [rn, o.rm, o.rs]
  | .sbcImm _ _ rn _ _ => [rn]
  | .sbcShift _ _ rn _ o => [rn, o.rm]
  | .sbcRegShift _ _ rn _ o => [rn, o.rm, o.rs]
  | .rscImm _ _ rn _ _ => [rn]
  | .rscShift _ _ rn _ o => [rn, o.rm]
  | .rscRegShift _ _ rn _ o => [rn, o.rm, o.rs]
  | .tstImm _ rn _ _ => [rn]
  | .tstShift _ rn _ o => [rn, o.rm]
  | .tstRegShift _ rn _ o => [rn, o.rm, o.rs]
  | .teqImm _ rn _ _ => [rn]
  | .teqShift _ rn _ o => [rn, o.rm]
  | .teqRegShift _ rn _ o => [rn, o.rm, o.rs]
  | .cmpImm _ rn _ _ => [rn]
  | .cmpShift _ rn _ o => [rn, o.rm]
  | .cmpRegShift _ rn _ o => [rn, o.rm, o.rs]
  | .cmnImm _ rn _ _ => [rn]
  | .cmnShift _ rn _ o => [rn, o.rm]
  | .cmnRegShift _ rn _ o => [rn, o.rm, o.rs]
  | .orrImm _ _ rn _ _ => [rn]
  | .orrShift _ _ rn _ o => [rn, o.rm]
  | .orrRegShift _ _ rn _ o => [rn, o.rm, o.rs]
  | .movImm _ _ _ _ _ => []
  | .movShift _ _ _ _ o => [o.rm]
  | .movRegShift _ _ _ _ o => [o.rm, o.rs]
  | .bicImm _ _ rn _ _ => [rn]
  | .bicShift _ _ rn _ o => [rn, o.rm]
  | .bicRegShift _ _ rn _ o => [rn, o.rm, o.rs]
  | .mvnImm _ _ _ _ _ => []
  | .mvnShift _ _ _ _ o => [o.rm]
  | .mvnRegShift _ _ _ _ o => [o.rm, o.rs]
  | .undefined _ _ _ => []
  | .ldrImmPre _ _ _ rn _ _ => [rn]
  | .ldrRegPre _ _ _ rn _ o => [rn, o.rm]
  | .ldrImmPost _ _ rn _ _ => [rn]
  | .ldrRegPost _ _ rn _ o => [rn, o.rm]
  | .ldrtImm _ _ rn _ _ => [rn]
  | .ldrtReg _ _ rn _ o => [rn, o.rm]
  | .ldrbImmPre _ _ _ rn _ _ => [rn]
  | .ldrbRegPre _ _ _ rn _ o => [rn, o.rm]
  | .ldrbImmPost _ _ rn _ _ => [rn]
  | .ldrbRegPost _ _ rn _ o => [rn, o.rm]
  | .ldrbtImm _ _ rn _ _ => [rn]
  | .ldrbtReg _ _ rn _ o => [rn, o.rm]
  | .strImmPre _ _ _ rn rd _ => [rn, rd]
  | .strRegPre _ _ _ rn rd o => [rn, o.rm, rd]
  | .strImmPost _ _ rn rd _ => [rn, rd]
  | .strRegPost _ _ rn rd o => [rn, o.rm, rd]
  | .strtImm _ _ rn rd _ => [rn, rd]
  | .strtReg _ _ rn rd o => [rn, o.rm, rd]
  | .strbImmPre _ _ _ rn rd _ => [rn, rd]
  | .strbRegPre _ _ _ rn rd o => [rn, o.rm, rd]
  | .strbImmPost _ _ rn rd _ => [rn, rd]
  | .strbRegPost _ _ rn rd o => [rn, o.rm, rd]
  | .strbtImm _ _ rn rd _ => [rn, rd]
  | .strbtReg _ _ rn rd o => [rn, o.rm, rd]
  | .ldmRestore _ _ _ _ rn _ => [rn]
  | .ldmUser _ _ _ _ rn _ => [rn]
  | .stmUser _ _ _ _ rn _ => [rn]
  | .ldmda _ _ rn _ => [rn]
  | .ldmia _ _ rn _ => [rn]
  | .ldmdb _ _ rn _ => [rn]
  | .ldmib _ _ rn _ => [rn]
  | .stmda _ _ rn list => rn :: Machine.regsOf list
  | .stmia _ _ rn list => rn :: Machine.regsOf list
  | .stmdb _ _ rn list => rn :: Machine.regsOf list
  | .stmib _ _ rn list => rn :: Machine.regsOf list
  | .b _ _ => []
  | .bl _ _ => []
  | .ldc _ _ _ _ _ _ _ _ _ => []
  | .stc _ _ _ _ _ _ _ _ _ => []
  | .cdp _ _ _ _ _ _ _ => []
  | .mcr _ _ _ _ _ _ _ => []
  | .mrc _ _ _ _ _ _ _ => []
  | .swi _ _ => []

end Sys2Proof

namespace Sys2Proof.Machine

/-- The hazard of R621: the last instruction was a user-bank LDM, and this one, its condition passing, reads a register
that is banked in the current mode. -/
def hazardous (i : Instr) (s : State) : Bool :=
  s.bankHazard && condPassed i.cond s.cpsr && i.reads.any (isBanked s.cpsr.m)

end Sys2Proof.Machine
end

