-- ==== Sys2Proof/Machine/Run.lean ====
section
/-! DEFINITION. One step of the machine, in the order of 60_exceptions.md R527. -/

namespace Sys2Proof.Machine

/-- Run a decoded instruction at the PC: the hazard of a preceding user-bank LDM is judged first and lasts for this
instruction only (70_reset_and_hazards.md R621). -/
def runInstr (i : Instr) (s : State) : Outcome :=
  if hazardous i s then .refused .bankedRead else exec i { s with bankHazard := false }

/-- Decode and run the fetched word (points 7 to 9 of R527). -/
def runWord (w : Word) (s : State) : Outcome :=
  match decode w with
  | .error e => .refused (.undecodable e)
  | .ok i => runInstr i s

/-- Fetch and run the instruction at the PC (points 6 to 9 of R527). -/
def runFetched (s : State) : Outcome :=
  match fetchWord s with
  | .aborted => prefetchAbort s
  | .fault f => .fault f
  | .refused f => .refused f
  | .word w => runWord w s

/-- One step (R527): the boundary's inputs are taken, and unless reset, the stuck state, THUMB state or an interrupt
comes first, the instruction at the PC runs. -/
def runStep (s : State) : Outcome :=
  match preempt s.boundary s.nextBoundary with
  | some o => o
  | none => runFetched s.nextBoundary

end Sys2Proof.Machine
end

