-- ==== Sys2Proof/Machine/Step.lean ====
section
/-! DEFINITION. The step of the machine, and placing an instruction where the next step fetches it. -/

namespace Sys2Proof.Machine

/-- One step of the machine (60_exceptions.md R527). -/
def step (s : State) : Host.Outcome State Fault Refusal :=
  runStep s

/-- `s` with the instruction whose bits are `w`, those at `nbits` and above being 0, stored at the PC in the byte order
of `s` (20_memory.md R105). It stands for a program loaded from outside (notes/assumptions/23.md). -/
def State.withFetchWord (s : State) (nbits w : Nat) : State :=
  placeWord s (BitVec.ofNat 32 (w % 2 ^ nbits))

end Sys2Proof.Machine
end

