-- ==== Sys2Proof/Safety.lean ====
section
/-! DEFINITION. The terms that claims are stated in: the invariant of the machine, when an access completes in ordinary
memory, and what a step leaves unchanged. -/

namespace Sys2Proof.Machine

/-! ### The invariant -/

/-- What every reachable state satisfies: memory is in its canonical form; the PC is a multiple of four in ARM state and
even in THUMB state (10_state.md R40, 40_branch.md R221); the user-bank LDM hazard is pending only in a mode that has
banked registers (70_reset_and_hazards.md R621). -/
structure State.Inv (s : State) : Prop where
  mem_wf : s.mem.wf = true
  pc_arm : s.cpsr.t = false → wordAligned s.pc = true
  pc_thumb : s.cpsr.t = true → s.pc.getLsbD 0 = false
  hazard_bank : s.bankHazard = true → s.hasBank = true

/-! ### Accesses that complete in ordinary memory -/

/-- A read of this size at this address is not aborted and falls in ordinary memory. -/
structure State.CanRead (s : State) (size : Size) (a : Word) (priv : Bool) : Prop where
  not_aborted : s.abortsAccess .read a size priv = false
  not_sfr : inSfrWindow a = false
  mapped : firstUnmapped s.map (alignDown size a).toNat size.bytes = none

/-- A write of this size at this address is not aborted, lies outside the prefetched words, and falls in ordinary memory
that does not refuse writes. -/
structure State.CanWrite (s : State) (size : Size) (a : Word) (priv : Bool) : Prop where
  not_aborted : s.abortsAccess .write a size priv = false
  not_prefetched : overlapsPrefetch s.pc (alignDown size a) size.bytes = false
  not_sfr : inSfrWindow a = false
  mapped : firstUnmapped s.map (alignDown size a).toNat size.bytes = none
  accepted : refusesWrite s.map (alignDown size a).toNat size.bytes = false

/-- Whether a byte address is one of those that an access of this size at `a` touches. -/
def touches (size : Size) (a : Word) (x : Nat) : Prop :=
  (alignDown size a).toNat ≤ x ∧ x < (alignDown size a).toNat + size.bytes

/-! ### What stays unchanged -/

/-- Everything but the PC, the CPSR, memory, the hazard, the counter of free values and the written registers is as it
was: the other registers of every bank, the five SPSRs, and what stands around the core. -/
structure Unchanged (s t : State) (written : List (Option PhysReg)) : Prop where
  regs : ∀ q : PhysReg, some q ∉ written → t.gpr q = s.gpr q
  spsrFiq : t.spsrFiq = s.spsrFiq
  spsrIrq : t.spsrIrq = s.spsrIrq
  spsrSvc : t.spsrSvc = s.spsrSvc
  spsrAbt : t.spsrAbt = s.spsrAbt
  spsrUnd : t.spsrUnd = s.spsrUnd
  bigend : t.bigend = s.bigend
  om : t.om = s.om
  map : t.map = s.map
  misaligned : t.misaligned = s.misaligned
  aborts : t.aborts = s.aborts
  inputs : t.inputs = s.inputs
  sfrLog : t.sfrLog = s.sfrLog

/-- No byte of memory changed. -/
def MemoryKept (s t : State) : Prop :=
  ∀ x : Nat, t.mem.read x = s.mem.read x

/-- No byte of memory changed outside those that an access of this size at `a` touches. -/
def MemoryKeptOutside (s t : State) (size : Size) (a : Word) : Prop :=
  ∀ x : Nat, ¬ touches size a x → t.mem.read x = s.mem.read x

/-- A register, given by the physical register it names, holds a value. -/
def Holds (t : State) (p : Option PhysReg) (v : Word) : Prop :=
  ∃ q, p = some q ∧ t.gpr q = v

/-- Sequential completion: the PC advanced and the hazard is as it was. -/
structure Advanced (s t : State) : Prop where
  pc : t.pc = s.pc + 4#32
  bankHazard : t.bankHazard = s.bankHazard

end Sys2Proof.Machine
end

