-- ==== Sys2Proof/Claims.lean ====
section
/-! DEFINITION. The instructions grouped by shape, for claims about all of a group: which constructors belong to it, what
its operands are in a state, and which restriction of the spec, if any, a form breaks. -/

namespace Sys2Proof.Machine

/-- The first of several restrictions that is broken, if any. -/
def firstBroken : List (Bool × Refusal) → Option Refusal
  | [] => none
  | (broken, r) :: rest => if broken then some r else firstBroken rest

/-! ### Data processing -/

/-- A data-processing instruction seen in a state: operand 1, operand 2 with the shifter carry, and the broken
restriction, if any. -/
structure DataForm where
  cond : Cond
  op : Opcode
  sf : Bool
  rd : Reg
  op1 : Word
  op2 : Shifted
  broken : Option Refusal

/-- The thirty-six result-writing forms (41_data_processing.md R265). MOV and MVN have no operand 1 (R263). -/
def resultForm (i : Instr) (s : State) : Option DataForm :=
  match i with
  | .andImm c sf rn rd o => some ⟨c, .and, sf, rd, s.readReg 8#32 rn, immOperand o s, none⟩
  | .andShift c sf rn rd o => some ⟨c, .and, sf, rd, s.readReg 8#32 rn, shiftOperand o s, none⟩
  | .andRegShift c sf rn rd o => some ⟨c, .and, sf, rd, s.readReg 12#32 rn, regShiftOperand o s, firstBroken [(o.rs == 15#4, .shiftAmountR15)]⟩
  | .eorImm c sf rn rd o => some ⟨c, .eor, sf, rd, s.readReg 8#32 rn, immOperand o s, none⟩
  | .eorShift c sf rn rd o => some ⟨c, .eor, sf, rd, s.readReg 8#32 rn, shiftOperand o s, none⟩
  | .eorRegShift c sf rn rd o => some ⟨c, .eor, sf, rd, s.readReg 12#32 rn, regShiftOperand o s, firstBroken [(o.rs == 15#4, .shiftAmountR15)]⟩
  | .subImm c sf rn rd o => some ⟨c, .sub, sf, rd, s.readReg 8#32 rn, immOperand o s, none⟩
  | .subShift c sf rn rd o => some ⟨c, .sub, sf, rd, s.readReg 8#32 rn, shiftOperand o s, none⟩
  | .subRegShift c sf rn rd o => some ⟨c, .sub, sf, rd, s.readReg 12#32 rn, regShiftOperand o s, firstBroken [(o.rs == 15#4, .shiftAmountR15)]⟩
  | .rsbImm c sf rn rd o => some ⟨c, .rsb, sf, rd, s.readReg 8#32 rn, immOperand o s, none⟩
  | .rsbShift c sf rn rd o => some ⟨c, .rsb, sf, rd, s.readReg 8#32 rn, shiftOperand o s, none⟩
  | .rsbRegShift c sf rn rd o => some ⟨c, .rsb, sf, rd, s.readReg 12#32 rn, regShiftOperand o s, firstBroken [(o.rs == 15#4, .shiftAmountR15)]⟩
  | .addImm c sf rn rd o => some ⟨c, .add, sf, rd, s.readReg 8#32 rn, immOperand o s, none⟩
  | .addShift c sf rn rd o => some ⟨c, .add, sf, rd, s.readReg 8#32 rn, shiftOperand o s, none⟩
  | .addRegShift c sf rn rd o => some ⟨c, .add, sf, rd, s.readReg 12#32 rn, regShiftOperand o s, firstBroken [(o.rs == 15#4, .shiftAmountR15)]⟩
  | .adcImm c sf rn rd o => some ⟨c, .adc, sf, rd, s.readReg 8#32 rn, immOperand o s, none⟩
  | .adcShift c sf rn rd o => some ⟨c, .adc, sf, rd, s.readReg 8#32 rn, shiftOperand o s, none⟩
  | .adcRegShift c sf rn rd o => some ⟨c, .adc, sf, rd, s.readReg 12#32 rn, regShiftOperand o s, firstBroken [(o.rs == 15#4, .shiftAmountR15)]⟩
  | .sbcImm c sf rn rd o => some ⟨c, .sbc, sf, rd, s.readReg 8#32 rn, immOperand o s, none⟩
  | .sbcShift c sf rn rd o => some ⟨c, .sbc, sf, rd, s.readReg 8#32 rn, shiftOperand o s, none⟩
  | .sbcRegShift c sf rn rd o => some ⟨c, .sbc, sf, rd, s.readReg 12#32 rn, regShiftOperand o s, firstBroken [(o.rs == 15#4, .shiftAmountR15)]⟩
  | .rscImm c sf rn rd o => some ⟨c, .rsc, sf, rd, s.readReg 8#32 rn, immOperand o s, none⟩
  | .rscShift c sf rn rd o => some ⟨c, .rsc, sf, rd, s.readReg 8#32 rn, shiftOperand o s, none⟩
  | .rscRegShift c sf rn rd o => some ⟨c, .rsc, sf, rd, s.readReg 12#32 rn, regShiftOperand o s, firstBroken [(o.rs == 15#4, .shiftAmountR15)]⟩
  | .orrImm c sf rn rd o => some ⟨c, .orr, sf, rd, s.readReg 8#32 rn, immOperand o s, none⟩
  | .orrShift c sf rn rd o => some ⟨c, .orr, sf, rd, s.readReg 8#32 rn, shiftOperand o s, none⟩
  | .orrRegShift c sf rn rd o => some ⟨c, .orr, sf, rd, s.readReg 12#32 rn, regShiftOperand o s, firstBroken [(o.rs == 15#4, .shiftAmountR15)]⟩
  | .movImm c sf _ rd o => some ⟨c, .mov, sf, rd, 0#32, immOperand o s, none⟩
  | .movShift c sf _ rd o => some ⟨c, .mov, sf, rd, 0#32, shiftOperand o s, none⟩
  | .movRegShift c sf _ rd o => some ⟨c, .mov, sf, rd, 0#32, regShiftOperand o s, firstBroken [(o.rs == 15#4, .shiftAmountR15)]⟩
  | .bicImm c sf rn rd o => some ⟨c, .bic, sf, rd, s.readReg 8#32 rn, immOperand o s, none⟩
  | .bicShift c sf rn rd o => some ⟨c, .bic, sf, rd, s.readReg 8#32 rn, shiftOperand o s, none⟩
  | .bicRegShift c sf rn rd o => some ⟨c, .bic, sf, rd, s.readReg 12#32 rn, regShiftOperand o s, firstBroken [(o.rs == 15#4, .shiftAmountR15)]⟩
  | .mvnImm c sf _ rd o => some ⟨c, .mvn, sf, rd, 0#32, immOperand o s, none⟩
  | .mvnShift c sf _ rd o => some ⟨c, .mvn, sf, rd, 0#32, shiftOperand o s, none⟩
  | .mvnRegShift c sf _ rd o => some ⟨c, .mvn, sf, rd, 0#32, regShiftOperand o s, firstBroken [(o.rs == 15#4, .shiftAmountR15)]⟩
  | _ => none

/-- The twelve forms of TST, TEQ, CMP and CMN (41_data_processing.md R264). -/
def testForm (i : Instr) (s : State) : Option DataForm :=
  match i with
  | .tstImm c rn rd o => some ⟨c, .tst, true, rd, s.readReg 8#32 rn, immOperand o s, firstBroken [(rd == 15#4, .teqpForm)]⟩
  | .tstShift c rn rd o => some ⟨c, .tst, true, rd, s.readReg 8#32 rn, shiftOperand o s, firstBroken [(rd == 15#4, .teqpForm)]⟩
  | .tstRegShift c rn rd o => some ⟨c, .tst, true, rd, s.readReg 12#32 rn, regShiftOperand o s, firstBroken [(o.rs == 15#4, .shiftAmountR15), (rd == 15#4, .teqpForm)]⟩
  | .teqImm c rn rd o => some ⟨c, .teq, true, rd, s.readReg 8#32 rn, immOperand o s, firstBroken [(rd == 15#4, .teqpForm)]⟩
  | .teqShift c rn rd o => some ⟨c, .teq, true, rd, s.readReg 8#32 rn, shiftOperand o s, firstBroken [(rd == 15#4, .teqpForm)]⟩
  | .teqRegShift c rn rd o => some ⟨c, .teq, true, rd, s.readReg 12#32 rn, regShiftOperand o s, firstBroken [(o.rs == 15#4, .shiftAmountR15), (rd == 15#4, .teqpForm)]⟩
  | .cmpImm c rn rd o => some ⟨c, .cmp, true, rd, s.readReg 8#32 rn, immOperand o s, firstBroken [(rd == 15#4, .teqpForm)]⟩
  | .cmpShift c rn rd o => some ⟨c, .cmp, true, rd, s.readReg 8#32 rn, shiftOperand o s, firstBroken [(rd == 15#4, .teqpForm)]⟩
  | .cmpRegShift c rn rd o => some ⟨c, .cmp, true, rd, s.readReg 12#32 rn, regShiftOperand o s, firstBroken [(o.rs == 15#4, .shiftAmountR15), (rd == 15#4, .teqpForm)]⟩
  | .cmnImm c rn rd o => some ⟨c, .cmn, true, rd, s.readReg 8#32 rn, immOperand o s, firstBroken [(rd == 15#4, .teqpForm)]⟩
  | .cmnShift c rn rd o => some ⟨c, .cmn, true, rd, s.readReg 8#32 rn, shiftOperand o s, firstBroken [(rd == 15#4, .teqpForm)]⟩
  | .cmnRegShift c rn rd o => some ⟨c, .cmn, true, rd, s.readReg 12#32 rn, regShiftOperand o s, firstBroken [(o.rs == 15#4, .shiftAmountR15), (rd == 15#4, .teqpForm)]⟩
  | _ => none

/-! ### Single transfers -/

/-- The five kinds of load. -/
inductive LoadKind where
  | word | byte | signedByte | half | signedHalf
  deriving DecidableEq, Repr

/-- The size of the access. -/
def LoadKind.size : LoadKind → Size
  | .word => .word
  | .byte => .byte
  | .signedByte => .byte
  | .half => .half
  | .signedHalf => .half

/-- What a load of a kind gives the register, from the zero-extended unit at the aligned address (20_memory.md R110,
44_single_data_transfer.md R356, R357, R364, R365, R367). -/
def LoadKind.value (k : LoadKind) (a unit : Word) : Word :=
  match k with
  | .word => rotateLoaded a unit
  | .byte => unit
  | .signedByte => (unit.setWidth 8).signExtend 32
  | .half => unit
  | .signedHalf => (unit.setWidth 16).signExtend 32

/-- A single transfer seen in a state: the addressing, the privileged attribute and the broken restriction, if any. -/
structure TransferForm where
  cond : Cond
  kind : LoadKind
  rn : Reg
  rd : Reg
  x : Indexed
  priv : Bool
  broken : Option Refusal

/-- The restrictions on write-back (44_single_data_transfer.md R352, R354). -/
def writeBackRules (wb : Bool) (rn rd : Reg) : List (Bool × Refusal) :=
  [(wb && rn == 15#4, .writeBackR15), (wb && rd == rn, .writeBackRdRn)]

/-- The restrictions of a post-indexed register offset (R352 to R354). -/
def postRegRules (rn rd rm : Reg) : List (Bool × Refusal) :=
  [(rm == 15#4, .offsetR15), (rm == rn, .postIndexedRmRn)] ++ writeBackRules true rn rd

/-- The restrictions of the halfword class with a register offset (R363, R369). -/
def halfRegRules (p w : Bool) (rn rd rm : Reg) : List (Bool × Refusal) :=
  [(rm == 15#4, .offsetR15), (!p && w, .halfwordPostW)] ++ writeBackRules (!p || w) rn rd
    ++ [(!p && rm == rn, .postIndexedRmRn)]

/-- The restrictions of the halfword class with an immediate offset (R363, R369). -/
def halfImmRules (p w : Bool) (rn rd : Reg) : List (Bool × Refusal) :=
  (!p && w, .halfwordPostW) :: writeBackRules (!p || w) rn rd

/-- The eighteen loads: LDR, LDRB, LDRT, LDRBT (R356, R357, R360), LDRH, LDRSB, LDRSH (R364, R365, R367). -/
def loadForm (i : Instr) (s : State) : Option TransferForm :=
  match i with
  | .ldrImmPre c u w rn rd off =>
    some ⟨c, .word, rn, rd, preIndexed u w (s.readReg 8#32 rn) (off.setWidth 32), s.privileged, firstBroken (writeBackRules w rn rd)⟩
  | .ldrRegPre c u w rn rd o =>
    some ⟨c, .word, rn, rd, preIndexed u w (s.readReg 8#32 rn) (shiftedOffset o s), s.privileged, firstBroken ((o.rm == 15#4, .offsetR15) :: writeBackRules w rn rd)⟩
  | .ldrImmPost c u rn rd off =>
    some ⟨c, .word, rn, rd, postIndexed u (s.readReg 8#32 rn) (off.setWidth 32), s.privileged, firstBroken (writeBackRules true rn rd)⟩
  | .ldrRegPost c u rn rd o =>
    some ⟨c, .word, rn, rd, postIndexed u (s.readReg 8#32 rn) (shiftedOffset o s), s.privileged, firstBroken (postRegRules rn rd o.rm)⟩
  | .ldrtImm c u rn rd off =>
    some ⟨c, .word, rn, rd, postIndexed u (s.readReg 8#32 rn) (off.setWidth 32), false, firstBroken (writeBackRules true rn rd)⟩
  | .ldrtReg c u rn rd o =>
    some ⟨c, .word, rn, rd, postIndexed u (s.readReg 8#32 rn) (shiftedOffset o s), false, firstBroken (postRegRules rn rd o.rm)⟩
  | .ldrbImmPre c u w rn rd off =>
    some ⟨c, .byte, rn, rd, preIndexed u w (s.readReg 8#32 rn) (off.setWidth 32), s.privileged, firstBroken (writeBackRules w rn rd)⟩
  | .ldrbRegPre c u w rn rd o =>
    some ⟨c, .byte, rn, rd, preIndexed u w (s.readReg 8#32 rn) (shiftedOffset o s), s.privileged, firstBroken ((o.rm == 15#4, .offsetR15) :: writeBackRules w rn rd)⟩
  | .ldrbImmPost c u rn rd off =>
    some ⟨c, .byte, rn, rd, postIndexed u (s.readReg 8#32 rn) (off.setWidth 32), s.privileged, firstBroken (writeBackRules true rn rd)⟩
  | .ldrbRegPost c u rn rd o =>
    some ⟨c, .byte, rn, rd, postIndexed u (s.readReg 8#32 rn) (shiftedOffset o s), s.privileged, firstBroken (postRegRules rn rd o.rm)⟩
  | .ldrbtImm c u rn rd off =>
    some ⟨c, .byte, rn, rd, postIndexed u (s.readReg 8#32 rn) (off.setWidth 32), false, firstBroken (writeBackRules true rn rd)⟩
  | .ldrbtReg c u rn rd o =>
    some ⟨c, .byte, rn, rd, postIndexed u (s.readReg 8#32 rn) (shiftedOffset o s), false, firstBroken (postRegRules rn rd o.rm)⟩
  | .ldrhReg c p u w rn rd rm =>
    some ⟨c, .half, rn, rd, indexedBy p u w (s.readReg 8#32 rn) (s.readReg 8#32 rm), s.privileged,
      firstBroken (halfRegRules p w rn rd rm)⟩
  | .ldrhImm c p u w rn rd off =>
    some ⟨c, .half, rn, rd, indexedBy p u w (s.readReg 8#32 rn) (off.setWidth 32), s.privileged,
      firstBroken (halfImmRules p w rn rd)⟩
  | .ldrsbReg c p u w rn rd rm =>
    some ⟨c, .signedByte, rn, rd, indexedBy p u w (s.readReg 8#32 rn) (s.readReg 8#32 rm), s.privileged,
      firstBroken (halfRegRules p w rn rd rm)⟩
  | .ldrsbImm c p u w rn rd off =>
    some ⟨c, .signedByte, rn, rd, indexedBy p u w (s.readReg 8#32 rn) (off.setWidth 32), s.privileged,
      firstBroken (halfImmRules p w rn rd)⟩
  | .ldrshReg c p u w rn rd rm =>
    some ⟨c, .signedHalf, rn, rd, indexedBy p u w (s.readReg 8#32 rn) (s.readReg 8#32 rm), s.privileged,
      firstBroken (halfRegRules p w rn rd rm)⟩
  | .ldrshImm c p u w rn rd off =>
    some ⟨c, .signedHalf, rn, rd, indexedBy p u w (s.readReg 8#32 rn) (off.setWidth 32), s.privileged,
      firstBroken (halfImmRules p w rn rd)⟩
  | _ => none

/-- The fourteen stores: STR, STRB, STRT, STRBT (R358, R359, R360), STRH (R368). -/
def storeForm (i : Instr) (s : State) : Option TransferForm :=
  match i with
  | .strImmPre c u w rn rd off =>
    some ⟨c, .word, rn, rd, preIndexed u w (s.readReg 8#32 rn) (off.setWidth 32), s.privileged, firstBroken (writeBackRules w rn rd)⟩
  | .strRegPre c u w rn rd o =>
    some ⟨c, .word, rn, rd, preIndexed u w (s.readReg 8#32 rn) (shiftedOffset o s), s.privileged, firstBroken ((o.rm == 15#4, .offsetR15) :: writeBackRules w rn rd)⟩
  | .strImmPost c u rn rd off =>
    some ⟨c, .word, rn, rd, postIndexed u (s.readReg 8#32 rn) (off.setWidth 32), s.privileged, firstBroken (writeBackRules true rn rd)⟩
  | .strRegPost c u rn rd o =>
    some ⟨c, .word, rn, rd, postIndexed u (s.readReg 8#32 rn) (shiftedOffset o s), s.privileged, firstBroken (postRegRules rn rd o.rm)⟩
  | .strtImm c u rn rd off =>
    some ⟨c, .word, rn, rd, postIndexed u (s.readReg 8#32 rn) (off.setWidth 32), false, firstBroken (writeBackRules true rn rd)⟩
  | .strtReg c u rn rd o =>
    some ⟨c, .word, rn, rd, postIndexed u (s.readReg 8#32 rn) (shiftedOffset o s), false, firstBroken (postRegRules rn rd o.rm)⟩
  | .strbImmPre c u w rn rd off =>
    some ⟨c, .byte, rn, rd, preIndexed u w (s.readReg 8#32 rn) (off.setWidth 32), s.privileged, firstBroken (writeBackRules w rn rd)⟩
  | .strbRegPre c u w rn rd o =>
    some ⟨c, .byte, rn, rd, preIndexed u w (s.readReg 8#32 rn) (shiftedOffset o s), s.privileged, firstBroken ((o.rm == 15#4, .offsetR15) :: writeBackRules w rn rd)⟩
  | .strbImmPost c u rn rd off =>
    some ⟨c, .byte, rn, rd, postIndexed u (s.readReg 8#32 rn) (off.setWidth 32), s.privileged, firstBroken (writeBackRules true rn rd)⟩
  | .strbRegPost c u rn rd o =>
    some ⟨c, .byte, rn, rd, postIndexed u (s.readReg 8#32 rn) (shiftedOffset o s), s.privileged, firstBroken (postRegRules rn rd o.rm)⟩
  | .strbtImm c u rn rd off =>
    some ⟨c, .byte, rn, rd, postIndexed u (s.readReg 8#32 rn) (off.setWidth 32), false, firstBroken (writeBackRules true rn rd)⟩
  | .strbtReg c u rn rd o =>
    some ⟨c, .byte, rn, rd, postIndexed u (s.readReg 8#32 rn) (shiftedOffset o s), false, firstBroken (postRegRules rn rd o.rm)⟩
  | .strhReg c p u w rn rd rm =>
    some ⟨c, .half, rn, rd, indexedBy p u w (s.readReg 8#32 rn) (s.readReg 8#32 rm), s.privileged,
      firstBroken (halfRegRules p w rn rd rm)⟩
  | .strhImm c p u w rn rd off =>
    some ⟨c, .half, rn, rd, indexedBy p u w (s.readReg 8#32 rn) (off.setWidth 32), s.privileged,
      firstBroken (halfImmRules p w rn rd)⟩
  | _ => none

/-! ### Block transfers -/

/-- A block transfer: its fields but for S. -/
structure BlockForm where
  cond : Cond
  p : Bool
  u : Bool
  w : Bool
  rn : Reg
  list : BitVec 16

/-- The lowest address of the block (45_block_data_transfer.md R402). -/
def BlockForm.start (f : BlockForm) (s : State) : Word :=
  blockStart f.p f.u (s.readReg 8#32 f.rn) (blockSpan f.list)

/-- The address of the `k`-th transfer (R402). -/
def BlockForm.addr (f : BlockForm) (s : State) (k : Nat) : Word :=
  f.start s + BitVec.ofNat 32 (4 * k)

/-- The written-back base (R402). -/
def BlockForm.newBase (f : BlockForm) (s : State) : Word :=
  blockNewBase f.u (s.readReg 8#32 f.rn) (blockSpan f.list)

/-- The restrictions of every block transfer (R401, R404). -/
def BlockForm.broken (f : BlockForm) (s : State) : Option Refusal :=
  firstBroken [(f.list == 0#16, .emptyList), (f.rn == 15#4, .baseR15),
    (s.refusesUnaligned (s.readReg 8#32 f.rn), .unalignedWord)]

/-- The four LDM forms with S = 0 (R406, R407). -/
def ldmForm (i : Instr) : Option BlockForm :=
  match i with
  | .ldmda c w rn list => some ⟨c, false, false, w, rn, list⟩
  | .ldmia c w rn list => some ⟨c, false, true, w, rn, list⟩
  | .ldmdb c w rn list => some ⟨c, true, false, w, rn, list⟩
  | .ldmib c w rn list => some ⟨c, true, true, w, rn, list⟩
  | _ => none

/-- The four STM forms with S = 0 (R405). -/
def stmForm (i : Instr) : Option BlockForm :=
  match i with
  | .stmda c w rn list => some ⟨c, false, false, w, rn, list⟩
  | .stmia c w rn list => some ⟨c, false, true, w, rn, list⟩
  | .stmdb c w rn list => some ⟨c, true, false, w, rn, list⟩
  | .stmib c w rn list => some ⟨c, true, true, w, rn, list⟩
  | _ => none

/-- Every LDM with the bank that its list names: the current mode's, and for the user-bank form the User bank
(45_block_data_transfer.md R406 to R409). -/
def ldmAny (i : Instr) (s : State) : Option (BlockForm × (Reg → Option PhysReg)) :=
  match i with
  | .ldmRestore c p u w rn list => some (⟨c, p, u, w, rn, list⟩, bank s.cpsr.m)
  | .ldmUser c p u w rn list => some (⟨c, p, u, w, rn, list⟩, userBank)
  | i => (ldmForm i).map (fun f => (f, bank s.cpsr.m))

/-- Every STM with the value of each register of its list: in the current mode's bank, and for the user-bank form in the
User bank; R15 as the instruction's address plus 12 (R405, R409). -/
def stmAny (i : Instr) (s : State) : Option (BlockForm × (Reg → Word)) :=
  match i with
  | .stmUser c p u w rn list => some (⟨c, p, u, w, rn, list⟩, s.readUserReg)
  | i => (stmForm i).map (fun f => (f, s.readReg 12#32))

/-- Whether the S bit of a block transfer is allowed: never in User mode; the form that restores the CPSR needs an SPSR, a
user-bank form no write-back (R404, R408, R409, D29). -/
def sBitAllowed (i : Instr) (s : State) : Bool :=
  match i with
  | .ldmRestore _ _ _ _ _ _ => s.privileged && s.spsr.isSome
  | .ldmUser _ _ _ w _ _ => s.privileged && !w
  | .stmUser _ _ _ w _ _ => s.privileged && !w
  | _ => true

/-- The word that STM stores for the `k`-th register `g` of its list, whose value is `v`: the base as its modified value where
it is written back and is not the first (R403, R405). -/
def BlockForm.stored (f : BlockForm) (s : State) (k : Nat) (g : Reg) (v : Word) : Word :=
  if f.w = true ∧ g = f.rn ∧ 0 < k then f.newBase s else v

/-! ### Multiplies -/

/-- A multiply seen in a state: the word result, the registers, and the broken restriction, if any. -/
structure MulForm where
  cond : Cond
  sf : Bool
  rd : Reg
  result : Word
  broken : Option Refusal

/-- MUL and MLA (43_multiply.md R321 to R323). The Rn field of MUL is ignored (U17). -/
def mulForm (i : Instr) (s : State) : Option MulForm :=
  match i with
  | .mul c sf rd _ rs rm =>
    some ⟨c, sf, rd, s.readReg 8#32 rm * s.readReg 8#32 rs,
      firstBroken [(rd == 15#4 || rm == 15#4 || rs == 15#4, .multiplyR15), (rd == rm, .multiplyRdRm)]⟩
  | .mla c sf rd rn rs rm =>
    some ⟨c, sf, rd, s.readReg 8#32 rm * s.readReg 8#32 rs + s.readReg 8#32 rn,
      firstBroken [(rd == 15#4 || rm == 15#4 || rs == 15#4 || rn == 15#4, .multiplyR15), (rd == rm, .multiplyRdRm)]⟩
  | _ => none

/-- A long multiply: signedness, accumulation and fields (43_multiply.md R330). -/
structure LongForm where
  cond : Cond
  sf : Bool
  signed : Bool
  accumulate : Bool
  rdHi : Reg
  rdLo : Reg
  rs : Reg
  rm : Reg

/-- The four long multiplies (R331 to R334). -/
def longForm (i : Instr) : Option LongForm :=
  match i with
  | .umull c sf rdHi rdLo rs rm => some ⟨c, sf, false, false, rdHi, rdLo, rs, rm⟩
  | .umlal c sf rdHi rdLo rs rm => some ⟨c, sf, false, true, rdHi, rdLo, rs, rm⟩
  | .smull c sf rdHi rdLo rs rm => some ⟨c, sf, true, false, rdHi, rdLo, rs, rm⟩
  | .smlal c sf rdHi rdLo rs rm => some ⟨c, sf, true, true, rdHi, rdLo, rs, rm⟩
  | _ => none

/-- The exact result before it is reduced modulo 2^64 (R331 to R334): the product of the operands as unsigned or signed
integers, plus the unsigned or signed accumulator. -/
def LongForm.exact (f : LongForm) (s : State) : Int :=
  let a := s.readReg 8#32 f.rm
  let b := s.readReg 8#32 f.rs
  let acc := s.readReg 8#32 f.rdHi ++ s.readReg 8#32 f.rdLo
  (if f.signed then a.toInt * b.toInt else a.toNat * b.toNat)
    + (if f.accumulate then (if f.signed then acc.toInt else acc.toNat) else 0)

/-- The restrictions of the long multiplies (R335). -/
def LongForm.broken (f : LongForm) : Option Refusal :=
  firstBroken [(f.rdHi == 15#4 || f.rdLo == 15#4 || f.rm == 15#4 || f.rs == 15#4, .longR15),
    (f.rdHi == f.rdLo || f.rdHi == f.rm || f.rdLo == f.rm, .longNotDistinct)]

/-! ### Traps -/

/-- The condition of the six instructions that take the undefined instruction trap on this chip
(47_coprocessor_undefined.md R451 to R456). -/
def trapForm (i : Instr) : Option Cond :=
  match i with
  | .undefined c _ _ => some c
  | .ldc c _ _ _ _ _ _ _ _ => some c
  | .stc c _ _ _ _ _ _ _ _ => some c
  | .cdp c _ _ _ _ _ _ => some c
  | .mcr c _ _ _ _ _ _ => some c
  | .mrc c _ _ _ _ _ _ => some c
  | _ => none

end Sys2Proof.Machine
end

