-- ==== Sys2Proof/Certificates/Slice0/Obligations.lean ====
section
/-! DEFINITION. The statements put to the provers. -/

open Sys2Proof Sys2Proof.Machine

/-! ### Encoding -/

/-- Decoding the word of a well-formed instruction gives the instruction back, with every field at every value
(30_encoding.md R162, R175 to R192). -/
def Obligations.DecodeEncodeRoundTrip : Prop :=
  ∀ i : Instr, i.wf = true → decode (encode i) = .ok i

/-- A word that decodes is the word of the instruction it decodes to, and that instruction is well formed: every bit of
the word is kept (30_encoding.md R162, R167). -/
def Obligations.EncodeDecodeRoundTrip : Prop :=
  ∀ (w : Word) (i : Instr), decode w = .ok i → encode i = w ∧ i.wf = true

/-- Every word whose condition field is 1111 is refused, whatever its other bits. The manual reserves the field and does not say
what such a word does; refusing it is the spec's decision D5 (30_encoding.md R164, notes/assumptions/13.md). -/
def Obligations.ReservedConditionIsRefused : Prop :=
  ∀ w : Word, w.extractLsb' 28 4 = 0b1111#4 → decode w = .error .reservedCondition

/-- The words that decode to a trapping instruction are exactly those of the Undefined format and of the coprocessor
space, with a usable condition (47_coprocessor_undefined.md R454). The pattern of the Undefined format and the layouts of MRC
and MCR are the spec's presumptions (30_encoding.md R161, R165, notes/assumptions/19.md). -/
def Obligations.TrappingWordsAreExactlyTheListed : Prop :=
  ∀ w : Word, w.extractLsb' 28 4 ≠ 0b1111#4 →
    ((∃ i c, decode w = .ok i ∧ trapForm i = some c) ↔
      ((w.extractLsb' 25 3 = 0b011#3 ∧ w.getLsbD 4 = true) ∨ w.extractLsb' 25 3 = 0b110#3 ∨
        w.extractLsb' 24 4 = 0b1110#4))

/-- Twelve of the manual's example words decode to the instructions they stand for (40_branch.md R222, R223,
41_data_processing.md R291, 42_psr_transfer.md R301, R302, 43_multiply.md R321, R332, 44_single_data_transfer.md R356, R364,
45_block_data_transfer.md R406, 46_swap_swi.md R431, R440). The word of MSR rests on the spec's presumption of its bits
19:16 (notes/assumptions/19.md). -/
def Obligations.ExampleWordsDecode : Prop :=
  decode 0xE12FFF10#32 = .ok (.bx .al 0#4) ∧
  decode 0xEAFFFFFE#32 = .ok (.b .al 0xFFFFFE#24) ∧
  decode 0xE0454237#32 = .ok (.subRegShift .al false 5#4 4#4 ⟨2#4, .lsr, 7#4⟩) ∧
  decode 0xE10F0000#32 = .ok (.mrs .al false 0#4) ∧
  decode 0xE129F000#32 = .ok (.msrReg .al false 0#4) ∧
  decode 0xE0010392#32 = .ok (.mul .al false 1#4 0#4 3#4 2#4) ∧
  decode 0xE0B51392#32 = .ok (.umlal .al true 5#4 1#4 3#4 2#4) ∧
  decode 0xE5921010#32 = .ok (.ldrImmPre .al true false 2#4 1#4 16#12) ∧
  decode 0xE13210B3#32 = .ok (.ldrhReg .al true false true 2#4 1#4 3#4) ∧
  decode 0xE8BD0007#32 = .ok (.ldmia .al true 13#4 0x0007#16) ∧
  decode 0xE1020091#32 = .ok (.swp .al 2#4 0#4 1#4) ∧
  decode 0xEF123456#32 = .ok (.swi .al 0x123456#24)

/-! ### The step -/

/-- A step runs the decoded instruction: with no reset and no unmasked interrupt at the boundary, a legal mode and ARM
state, an aligned PC in mapped memory whose fetch is not aborted, and no hazard, the step is `exec` of the instruction
that the word at the PC decodes to, on the state whose boundary inputs are taken and whose hazard is discharged
(60_exceptions.md R527). -/
def Obligations.StepRunsTheDecodedInstruction : Prop :=
  ∀ (s : State) (i : Instr),
    s.boundary.reset = none → s.mode.isSome = true → s.cpsr.t = false →
    (s.boundary.fiq && !s.cpsr.f) = false → (s.boundary.irq && !s.cpsr.i) = false →
    wordAligned s.pc = true → s.abortsAccess .fetch s.pc .word s.privileged = false →
    inSfrWindow s.pc = false → firstUnmapped s.map s.pc.toNat 4 = none →
    decode (s.readMem .word s.pc) = .ok i → hazardous i s = false →
    step s = exec i { s with inputs := s.inputs.tail, bankHazard := false }

/-- Every step keeps the invariant: memory stays in its canonical form, the PC stays aligned for its state, and the
user-bank LDM hazard is pending only in a mode with banked registers. The canonical form rests on the model's choice of
what an unlisted byte reads as (notes/assumptions/2.md) and the step after a reset on notes/assumptions/9.md. -/
def Obligations.StepKeepsTheInvariant : Prop :=
  ∀ s t : State, s.Inv → step s = .next t → t.Inv

/-- After reset the PC is 0, the mode Supervisor, I and F are set and T is clear (10_state.md R65), and the invariant of
StepKeepsTheInvariant holds; the canonical form of the memory after reset is the model's choice
(notes/assumptions/2.md). -/
def Obligations.ResetValuesAndInvariant : Prop :=
  State.reset.pc = 0x00000000#32 ∧ State.reset.cpsr.m = 0b10011#5 ∧ State.reset.cpsr.i = true ∧
    State.reset.cpsr.f = true ∧ State.reset.cpsr.t = false ∧ State.reset.Inv

/-- What comes before any instruction. A reset taken during a run (60_exceptions.md R512): whatever the state, the step answers a
next state at address 0 in Supervisor mode and ARM state with I and F set and the pins latched; that memory is kept is the
model's choice (notes/assumptions/9.md). While no reset is asserted, a step with an illegal mode value is stuck
(10_state.md R49, decision D15), and a step in THUMB state in a legal mode is refused (48_thumb_state.md R477, decision
D13), whatever interrupts arrive. -/
def Obligations.ResetStuckAndThumbComeFirst : Prop :=
  ∀ s : State,
    (∀ pins : Pins, s.boundary.reset = some pins →
      ∃ t, step s = .next t ∧ t.pc = 0x00000000#32 ∧ t.cpsr.m = 0b10011#5 ∧ t.cpsr.i = true ∧ t.cpsr.f = true ∧
        t.cpsr.t = false ∧ t.bigend = pins.endian ∧ t.om = pins.om ∧ t.mem = s.mem ∧ t.bankHazard = false ∧
        t.inputs = s.inputs.tail) ∧
    (s.boundary.reset = none → s.mode = none → step s = .fault .illegalMode) ∧
    (s.boundary.reset = none → s.mode.isSome = true → s.cpsr.t = true → step s = .refused .thumbState)

/-! ### Exceptions -/

/-- The generic entry sequence (60_exceptions.md R511), for each of the six exceptions but Reset: the link register and the SPSR
of the mode entered, the mode, T, I, F and the PC; the flags, memory, every other register and every other SPSR stay. The
I and F columns are the spec's presumption (notes/assumptions/18.md). -/
def Obligations.ExceptionEntrySequence : Prop :=
  ∀ (k : ExceptionKind) (link : Word) (s : State), k ≠ .reset →
    (enterException k link s).gpr k.mode.linkReg = link ∧
    (enterException k link s).spsrOf k.mode = some s.cpsr ∧
    (enterException k link s).pc = k.vector ∧
    (enterException k link s).cpsr.m = k.mode.bits ∧
    (enterException k link s).cpsr.t = false ∧
    (enterException k link s).cpsr.i = true ∧
    (enterException k link s).cpsr.f = (s.cpsr.f || k == .fiq) ∧
    (enterException k link s).cpsr.n = s.cpsr.n ∧ (enterException k link s).cpsr.z = s.cpsr.z ∧
    (enterException k link s).cpsr.c = s.cpsr.c ∧ (enterException k link s).cpsr.v = s.cpsr.v ∧
    (enterException k link s).mem = s.mem ∧
    (∀ q, q ≠ k.mode.linkReg → (enterException k link s).gpr q = s.gpr q) ∧
    (∀ m, m ≠ k.mode → (enterException k link s).spsrOf m = s.spsrOf m)

/-- Interrupts at the boundary of a legal mode in ARM state, no reset being asserted. FIQ is taken when it is asserted and F is
clear, before IRQ, before the fetch; IRQ when it is asserted, I is clear and no FIQ is taken (60_exceptions.md R506, R517,
R518, R525, R527). The link value is the address of the instruction not executed plus 4. I set on entry is the spec's
presumption (notes/assumptions/18.md). -/
def Obligations.InterruptsAreTakenAtTheBoundary : Prop :=
  ∀ s : State, s.boundary.reset = none → s.mode.isSome = true → s.cpsr.t = false →
    (s.boundary.fiq = true → s.cpsr.f = false →
      ∃ t, step s = .next t ∧ t.pc = 0x0000001C#32 ∧ t.gpr .r14fiq = s.pc + 4#32 ∧ t.spsrFiq = s.cpsr ∧
        t.cpsr = { s.cpsr with m := 0b10001#5, t := false, i := true, f := true } ∧ t.mem = s.mem ∧
        (∀ q, q ≠ .r14fiq → t.gpr q = s.gpr q) ∧ t.spsrIrq = s.spsrIrq ∧ t.spsrSvc = s.spsrSvc ∧
        t.spsrAbt = s.spsrAbt ∧ t.spsrUnd = s.spsrUnd) ∧
    ((s.boundary.fiq && !s.cpsr.f) = false → s.boundary.irq = true → s.cpsr.i = false →
      ∃ t, step s = .next t ∧ t.pc = 0x00000018#32 ∧ t.gpr .r14irq = s.pc + 4#32 ∧ t.spsrIrq = s.cpsr ∧
        t.cpsr = { s.cpsr with m := 0b10010#5, t := false, i := true } ∧ t.mem = s.mem ∧
        (∀ q, q ≠ .r14irq → t.gpr q = s.gpr q) ∧ t.spsrFiq = s.spsrFiq ∧ t.spsrSvc = s.spsrSvc ∧
        t.spsrAbt = s.spsrAbt ∧ t.spsrUnd = s.spsrUnd)

/-- A prefetch abort is taken instead of the instruction whose fetch is aborted (60_exceptions.md R516). I set on entry is the
spec's presumption (notes/assumptions/18.md). -/
def Obligations.PrefetchAbortReplacesTheInstruction : Prop :=
  ∀ s : State, s.boundary.reset = none → s.mode.isSome = true → s.cpsr.t = false →
    (s.boundary.fiq && !s.cpsr.f) = false → (s.boundary.irq && !s.cpsr.i) = false →
    wordAligned s.pc = true → s.abortsAccess .fetch s.pc .word s.privileged = true →
    ∃ t, step s = .next t ∧ t.pc = 0x0000000C#32 ∧ t.gpr .r14abt = s.pc + 4#32 ∧ t.spsrAbt = s.cpsr ∧
      t.cpsr = { s.cpsr with m := 0b10111#5, t := false, i := true } ∧ t.mem = s.mem ∧
      (∀ q, q ≠ .r14abt → t.gpr q = s.gpr q) ∧ t.spsrFiq = s.spsrFiq ∧ t.spsrIrq = s.spsrIrq ∧
      t.spsrSvc = s.spsrSvc ∧ t.spsrUnd = s.spsrUnd

/-- SWI whose condition passes enters Supervisor mode at 0x08 (46_swap_swi.md R440). I set on entry is the spec's presumption
(notes/assumptions/18.md). -/
def Obligations.SwiEntersSupervisorMode : Prop :=
  ∀ (c : Cond) (comment : BitVec 24) (s : State), condPassed c s.cpsr = true →
    ∃ t, exec (.swi c comment) s = .next t ∧ t.pc = 0x00000008#32 ∧ t.gpr .r14svc = s.pc + 4#32 ∧
      t.spsrSvc = s.cpsr ∧ t.cpsr = { s.cpsr with m := 0b10011#5, t := false, i := true } ∧ t.mem = s.mem ∧
      (∀ q, q ≠ .r14svc → t.gpr q = s.gpr q) ∧ t.spsrFiq = s.spsrFiq ∧ t.spsrIrq = s.spsrIrq ∧
      t.spsrAbt = s.spsrAbt ∧ t.spsrUnd = s.spsrUnd

/-- UNDEFINED, LDC, STC, CDP, MCR and MRC, the condition passing, take the undefined instruction trap: no memory access, no
write-back, no register but R14_und (47_coprocessor_undefined.md R450 to R456). I set on entry is the spec's presumption
(notes/assumptions/18.md); that UNDEFINED obeys its condition is too (notes/assumptions/22.md). -/
def Obligations.UndefinedTrapOfSixInstructions : Prop :=
  ∀ (i : Instr) (c : Cond) (s : State), trapForm i = some c → condPassed c s.cpsr = true →
    ∃ t, exec i s = .next t ∧ t.pc = 0x00000004#32 ∧ t.gpr .r14und = s.pc + 4#32 ∧ t.spsrUnd = s.cpsr ∧
      t.cpsr = { s.cpsr with m := 0b11011#5, t := false, i := true } ∧ t.mem = s.mem ∧ t.sfrLog = s.sfrLog ∧
      (∀ q, q ≠ .r14und → t.gpr q = s.gpr q) ∧ t.spsrFiq = s.spsrFiq ∧ t.spsrIrq = s.spsrIrq ∧
      t.spsrSvc = s.spsrSvc ∧ t.spsrAbt = s.spsrAbt

/-- A data-processing instruction with S and Rd = R15 moves the SPSR of the current mode to the CPSR and the result to the PC,
together, the result's alignment being judged in the restored state; registers and memory stay (41_data_processing.md
R262). Two of its outcomes are decisions of the spec: without an SPSR it is refused (D29, notes/assumptions/13.md; an
illegal mode has none either, notes/assumptions/16.md), and so is an unaligned result in ARM state (D3, 40_branch.md R221,
notes/assumptions/13.md). -/
def Obligations.DataProcessingReturnsFromException : Prop :=
  ∀ (i : Instr) (s : State) (f : DataForm), resultForm i s = some f → condPassed f.cond s.cpsr = true →
    f.broken = none → f.sf = true → f.rd = 15#4 →
    (∀ p : PSR, s.spsr = some p → p.t = false → wordAligned (alu f.op f.op1 f.op2 s.cpsr).val = true →
      exec i s = .next { s with cpsr := p, pc := (alu f.op f.op1 f.op2 s.cpsr).val }) ∧
    (∀ p : PSR, s.spsr = some p → p.t = false → wordAligned (alu f.op f.op1 f.op2 s.cpsr).val = false →
      exec i s = .refused .unalignedPc) ∧
    (∀ p : PSR, s.spsr = some p → p.t = true →
      exec i s = .next { s with cpsr := p, pc := (alu f.op f.op1 f.op2 s.cpsr).val &&& 0xFFFFFFFE#32 }) ∧
    (s.spsr = none → exec i s = .refused .noSpsr)

/-- A supervisor call and its return: after a SWI from ARM state in any legal mode, the handler's MOVS PC,R14 (from the state
the SWI left, wherever its PC is) restores the caller's CPSR, resumes after the SWI, and leaves every register but R14_svc
and all of memory as they were (46_swap_swi.md R441, 60_exceptions.md R520, R521). -/
def Obligations.SwiThenMovsReturnsToTheCaller : Prop :=
  ∀ (c : Cond) (comment : BitVec 24) (rn : Reg) (s t : State),
    condPassed c s.cpsr = true → s.cpsr.t = false → wordAligned s.pc = true →
    exec (.swi c comment) s = .next t →
    ∃ u, exec (.movShift .al true rn 15#4 ⟨0#5, .lsl, 14#4⟩) t = .next u ∧ u.cpsr = s.cpsr ∧ u.pc = s.pc + 4#32 ∧
      u.mem = s.mem ∧ ∀ q, q ≠ .r14svc → u.gpr q = s.gpr q

/-! ### Conditions -/

/-- An instruction whose condition fails changes nothing but the program counter, and raises no exception (30_encoding.md
R170), for all 113 instructions. That UNDEFINED too obeys its condition is the spec's presumption
(47_coprocessor_undefined.md R455, decision D30, notes/assumptions/22.md). From 0xFFFFFFFC the advance is refused, the spec's
decision D4 (10_state.md R43); that a failed condition advances in this sense is deduced (notes/assumptions/34.md). -/
def Obligations.FailedConditionOnlyAdvances : Prop :=
  ∀ (i : Instr) (s : State), condPassed i.cond s.cpsr = false →
    (s.pc ≠ 0xFFFFFFFC#32 → exec i s = .next { s with pc := s.pc + 4#32 }) ∧
    (s.pc = 0xFFFFFFFC#32 → exec i s = .refused .pcWrap)

/-- The table of conditions (30_encoding.md R171): each code names its condition, 1111 none, and each condition passes
exactly when the table says so. -/
def Obligations.ConditionTable : Prop :=
  ∀ p : PSR,
    (Cond.ofBits 0b0000#4 = some .eq ∧ (condPassed .eq p = true ↔ p.z = true)) ∧
    (Cond.ofBits 0b0001#4 = some .ne ∧ (condPassed .ne p = true ↔ p.z = false)) ∧
    (Cond.ofBits 0b0010#4 = some .cs ∧ (condPassed .cs p = true ↔ p.c = true)) ∧
    (Cond.ofBits 0b0011#4 = some .cc ∧ (condPassed .cc p = true ↔ p.c = false)) ∧
    (Cond.ofBits 0b0100#4 = some .mi ∧ (condPassed .mi p = true ↔ p.n = true)) ∧
    (Cond.ofBits 0b0101#4 = some .pl ∧ (condPassed .pl p = true ↔ p.n = false)) ∧
    (Cond.ofBits 0b0110#4 = some .vs ∧ (condPassed .vs p = true ↔ p.v = true)) ∧
    (Cond.ofBits 0b0111#4 = some .vc ∧ (condPassed .vc p = true ↔ p.v = false)) ∧
    (Cond.ofBits 0b1000#4 = some .hi ∧ (condPassed .hi p = true ↔ p.c = true ∧ p.z = false)) ∧
    (Cond.ofBits 0b1001#4 = some .ls ∧ (condPassed .ls p = true ↔ p.c = false ∨ p.z = true)) ∧
    (Cond.ofBits 0b1010#4 = some .ge ∧ (condPassed .ge p = true ↔ p.n = p.v)) ∧
    (Cond.ofBits 0b1011#4 = some .lt ∧ (condPassed .lt p = true ↔ p.n ≠ p.v)) ∧
    (Cond.ofBits 0b1100#4 = some .gt ∧ (condPassed .gt p = true ↔ p.z = false ∧ p.n = p.v)) ∧
    (Cond.ofBits 0b1101#4 = some .le ∧ (condPassed .le p = true ↔ p.z = true ∨ p.n ≠ p.v)) ∧
    (Cond.ofBits 0b1110#4 = some .al ∧ condPassed .al p = true) ∧
    Cond.ofBits 0b1111#4 = none

/-! ### The shifter and the ALU -/

/-- Shifts by an amount in the instruction (41_data_processing.md R242 to R247), bit by bit: LSL, LSR, ASR and ROR by 1 to 31,
and the four meanings of amount 0, LSL #0, LSR #32, ASR #32 and RRX, with their carries. -/
def Obligations.ShiftByInstructionAmount : Prop :=
  ∀ (amount : BitVec 5) (m : Word) (c : Bool),
    (amount ≠ 0#5 →
      (∀ i, i < 32 → (shiftByField .lsl amount m c).val.getLsbD i =
        (decide (amount.toNat ≤ i) && m.getLsbD (i - amount.toNat))) ∧
      (shiftByField .lsl amount m c).carry = m.getLsbD (32 - amount.toNat) ∧
      (∀ i, i < 32 → (shiftByField .lsr amount m c).val.getLsbD i = m.getLsbD (i + amount.toNat)) ∧
      (shiftByField .lsr amount m c).carry = m.getLsbD (amount.toNat - 1) ∧
      (∀ i, i < 32 → (shiftByField .asr amount m c).val.getLsbD i =
        (if i + amount.toNat < 32 then m.getLsbD (i + amount.toNat) else m.getLsbD 31)) ∧
      (shiftByField .asr amount m c).carry = m.getLsbD (amount.toNat - 1) ∧
      (∀ i, i < 32 → (shiftByField .ror amount m c).val.getLsbD i = m.getLsbD ((i + amount.toNat) % 32)) ∧
      (shiftByField .ror amount m c).carry = m.getLsbD (amount.toNat - 1)) ∧
    shiftByField .lsl 0#5 m c = ⟨m, c⟩ ∧
    shiftByField .lsr 0#5 m c = ⟨0#32, m.getLsbD 31⟩ ∧
    shiftByField .asr 0#5 m c = ⟨if m.getLsbD 31 then 0xFFFFFFFF#32 else 0#32, m.getLsbD 31⟩ ∧
    (∀ i, i < 32 → (shiftByField .ror 0#5 m c).val.getLsbD i = (if i = 31 then c else m.getLsbD (i + 1))) ∧
    (shiftByField .ror 0#5 m c).carry = m.getLsbD 0

/-- Shifts by a register amount: zero passes the operand and the old carry through for all four types
(41_data_processing.md R248), 1 to 31 match the instruction-specified shift (R249), 32 to 255 follow the table (R250). -/
def Obligations.ShiftByRegisterAmount : Prop :=
  ∀ (m : Word) (c : Bool),
    (∀ k : ShiftKind, shiftBy k 0 m c = ⟨m, c⟩) ∧
    (∀ (k : ShiftKind) (amount : BitVec 5), amount ≠ 0#5 →
      shiftBy k amount.toNat m c = shiftByField k amount m c) ∧
    (∀ n : Nat, 32 ≤ n → n ≤ 255 →
      shiftBy .lsl n m c = ⟨0#32, if n = 32 then m.getLsbD 0 else false⟩ ∧
      shiftBy .lsr n m c = ⟨0#32, if n = 32 then m.getLsbD 31 else false⟩ ∧
      shiftBy .asr n m c = ⟨if m.getLsbD 31 then 0xFFFFFFFF#32 else 0#32, m.getLsbD 31⟩ ∧
      (∀ k, k = (n - 1) % 32 + 1 →
        shiftBy .ror n m c = if k = 32 then ⟨m, m.getLsbD 31⟩ else shiftBy .ror k m c))

/-- A rotated immediate: each bit comes from Imm rotated right by twice Rotate, and the carry is the old carry for Rotate 0,
else bit 31 (30_encoding.md R196; the carry is the spec's presumption, 41_data_processing.md R251,
notes/assumptions/20.md). -/
def Obligations.RotatedImmediate : Prop :=
  ∀ (o : RotImm) (s : State),
    (∀ i, i < 32 → (immOperand o s).val.getLsbD i =
      (decide ((i + 2 * o.rot.toNat) % 32 < 8) && o.imm.getLsbD ((i + 2 * o.rot.toNat) % 32))) ∧
    (immOperand o s).carry = (if o.rot = 0#4 then s.cpsr.c else (immOperand o s).val.getLsbD 31)

/-- R15 as an operand of data processing reads as the instruction's address plus 8, or plus 12 where a register gives the
shift amount, as operand 1 and as operand 2 (41_data_processing.md R252). -/
def Obligations.ProgramCounterAsOperand : Prop :=
  ∀ (s : State) (kind : ShiftKind) (rs rd : Reg) (c : Cond) (sf : Bool) (o : RotImm) (o2 : ShiftReg),
    rs ≠ 15#4 →
    shiftOperand ⟨0#5, .lsl, 15#4⟩ s = ⟨s.pc + 8#32, s.cpsr.c⟩ ∧
    regShiftOperand ⟨rs, kind, 15#4⟩ s =
      shiftBy kind ((s.readReg 8#32 rs).toNat % 256) (s.pc + 12#32) s.cpsr.c ∧
    (∃ f, resultForm (.addImm c sf 15#4 rd o) s = some f ∧ f.op1 = s.pc + 8#32) ∧
    (∃ f, resultForm (.addRegShift c sf 15#4 rd o2) s = some f ∧ f.op1 = s.pc + 12#32)

/-- The arithmetic operations (41_data_processing.md R255, R259, R272 to R277, R280, R281). AddWithCarry gives the sum modulo
2^32; its carry says that the unsigned sum reaches 2^32, its overflow that the signed sum leaves the signed range, and
equivalently that the operands agree in sign and the result differs. The eight operations are the AddWithCarry of Table 3-3,
with its results; N is bit 31 of the result and Z says that it is zero; for the subtractions C is no borrow and V a signed
difference out of range. That a subtraction adds the complement, and the sign rule of V, are the spec's presumptions
(notes/assumptions/20.md). -/
def Obligations.ArithmeticOperations : Prop :=
  (∀ (a b : Word) (cin : Bool),
    (addWithCarry a b cin).val.toNat = (a.toNat + b.toNat + cin.toNat) % 2 ^ 32 ∧
    ((addWithCarry a b cin).c = true ↔ 2 ^ 32 ≤ a.toNat + b.toNat + cin.toNat) ∧
    ((addWithCarry a b cin).v = true ↔
      (a.toInt + b.toInt + cin.toNat < -2 ^ 31 ∨ 2 ^ 31 ≤ a.toInt + b.toInt + cin.toNat)) ∧
    ((addWithCarry a b cin).v = true ↔
      a.getLsbD 31 = b.getLsbD 31 ∧ (addWithCarry a b cin).val.getLsbD 31 ≠ a.getLsbD 31) ∧
    (addWithCarry a b cin).n = (addWithCarry a b cin).val.getLsbD 31 ∧
    ((addWithCarry a b cin).z = true ↔ (addWithCarry a b cin).val = 0#32)) ∧
  ∀ (a : Word) (x : Shifted) (p : PSR),
    (∀ op : Opcode, op = .sub ∨ op = .cmp ∨ op = .rsb ∨ op = .add ∨ op = .cmn ∨ op = .adc ∨ op = .sbc ∨ op = .rsc →
      (alu op a x p).n = (alu op a x p).val.getLsbD 31 ∧
      ((alu op a x p).z = true ↔ (alu op a x p).val = 0#32)) ∧
    alu .sub a x p = addWithCarry a (~~~x.val) true ∧ alu .rsb a x p = addWithCarry x.val (~~~a) true ∧
    alu .sbc a x p = addWithCarry a (~~~x.val) p.c ∧ alu .rsc a x p = addWithCarry x.val (~~~a) p.c ∧
    (alu .sub a x p).val = a - x.val ∧ alu .cmp a x p = alu .sub a x p ∧ (alu .rsb a x p).val = x.val - a ∧
    alu .add a x p = addWithCarry a x.val false ∧ alu .cmn a x p = alu .add a x p ∧
    alu .adc a x p = addWithCarry a x.val p.c ∧
    (alu .sbc a x p).val = a - x.val + (if p.c then 1#32 else 0#32) - 1#32 ∧
    (alu .rsc a x p).val = x.val - a + (if p.c then 1#32 else 0#32) - 1#32 ∧
    ((alu .sub a x p).c = true ↔ x.val.toNat ≤ a.toNat) ∧
    ((alu .rsb a x p).c = true ↔ a.toNat ≤ x.val.toNat) ∧
    ((alu .sbc a x p).c = true ↔ x.val.toNat + (!p.c).toNat ≤ a.toNat) ∧
    ((alu .rsc a x p).c = true ↔ a.toNat + (!p.c).toNat ≤ x.val.toNat) ∧
    ((alu .sub a x p).v = true ↔ (a.toInt - x.val.toInt < -2 ^ 31 ∨ 2 ^ 31 ≤ a.toInt - x.val.toInt)) ∧
    ((alu .rsb a x p).v = true ↔ (x.val.toInt - a.toInt < -2 ^ 31 ∨ 2 ^ 31 ≤ x.val.toInt - a.toInt)) ∧
    ((alu .sbc a x p).v = true ↔ (a.toInt - x.val.toInt - (!p.c).toNat < -2 ^ 31 ∨
      2 ^ 31 ≤ a.toInt - x.val.toInt - (!p.c).toNat)) ∧
    ((alu .rsc a x p).v = true ↔ (x.val.toInt - a.toInt - (!p.c).toNat < -2 ^ 31 ∨
      2 ^ 31 ≤ x.val.toInt - a.toInt - (!p.c).toNat))

/-- The logical operations (41_data_processing.md R258, R270, R271, R278, R279, R282 to R285), bit by bit, with their flags: N is bit
31 of the result, Z says that it is zero, C is the shifter carry, V stays. -/
def Obligations.LogicalOperations : Prop :=
  ∀ (op : Opcode) (a : Word) (x : Shifted) (p : PSR),
    op = .and ∨ op = .eor ∨ op = .tst ∨ op = .teq ∨ op = .orr ∨ op = .mov ∨ op = .bic ∨ op = .mvn →
    (∀ i, i < 32 → (alu op a x p).val.getLsbD i =
      (if op = .and ∨ op = .tst then a.getLsbD i && x.val.getLsbD i
       else if op = .eor ∨ op = .teq then a.getLsbD i != x.val.getLsbD i
       else if op = .orr then a.getLsbD i || x.val.getLsbD i
       else if op = .mov then x.val.getLsbD i
       else if op = .bic then a.getLsbD i && !x.val.getLsbD i
       else !x.val.getLsbD i)) ∧
    (alu op a x p).n = (alu op a x p).val.getLsbD 31 ∧
    ((alu op a x p).z = true ↔ (alu op a x p).val = 0#32) ∧
    (alu op a x p).c = x.carry ∧ (alu op a x p).v = p.v

/-! ### Data processing -/

/-- The result-writing data-processing instructions, all thirty-six forms of AND, EOR, SUB, RSB, ADD, ADC, SBC, RSC, ORR, MOV, BIC
and MVN, complete with a destination other than R15: the destination receives the result, the flags change only with
S, nothing else changes (41_data_processing.md R258 to R260, R265, R270 to R277, R282 to R285). -/
def Obligations.DataProcessingWritesItsResult : Prop :=
  ∀ (i : Instr) (s : State) (f : DataForm), resultForm i s = some f → condPassed f.cond s.cpsr = true →
    f.broken = none → f.rd ≠ 15#4 → s.pc ≠ 0xFFFFFFFC#32 →
    ∃ t, exec i s = .next t ∧ Advanced s t ∧
      Holds t (bank s.cpsr.m f.rd) (alu f.op f.op1 f.op2 s.cpsr).val ∧
      t.cpsr = (if f.sf then
        { s.cpsr with n := (alu f.op f.op1 f.op2 s.cpsr).n, z := (alu f.op f.op1 f.op2 s.cpsr).z,
                      c := (alu f.op f.op1 f.op2 s.cpsr).c, v := (alu f.op f.op1 f.op2 s.cpsr).v }
        else s.cpsr) ∧
      Unchanged s t [bank s.cpsr.m f.rd] ∧ MemoryKept s t ∧ t.draws = s.draws

/-- The same instructions with Rd = R15 and S = 0 write the PC and leave the CPSR and everything else (41_data_processing.md
R261); a result that is not a multiple of four is refused, the spec's decision D3 (40_branch.md R221,
notes/assumptions/13.md). -/
def Obligations.DataProcessingWritesThePc : Prop :=
  ∀ (i : Instr) (s : State) (f : DataForm), resultForm i s = some f → condPassed f.cond s.cpsr = true →
    f.broken = none → f.rd = 15#4 → f.sf = false → s.cpsr.t = false →
    (wordAligned (alu f.op f.op1 f.op2 s.cpsr).val = true →
      exec i s = .next { s with pc := (alu f.op f.op1 f.op2 s.cpsr).val }) ∧
    (wordAligned (alu f.op f.op1 f.op2 s.cpsr).val = false → exec i s = .refused .unalignedPc)

/-- TST, TEQ, CMP and CMN, all twelve forms, complete: only the flags and the PC change, no register is written
(41_data_processing.md R264, R265, R278 to R281). -/
def Obligations.TestsSetOnlyTheFlags : Prop :=
  ∀ (i : Instr) (s : State) (f : DataForm), testForm i s = some f → condPassed f.cond s.cpsr = true →
    f.broken = none → s.pc ≠ 0xFFFFFFFC#32 →
    ∃ t, exec i s = .next t ∧ Advanced s t ∧
      t.cpsr = { s.cpsr with n := (alu f.op f.op1 f.op2 s.cpsr).n, z := (alu f.op f.op1 f.op2 s.cpsr).z,
                             c := (alu f.op f.op1 f.op2 s.cpsr).c, v := (alu f.op f.op1 f.op2 s.cpsr).v } ∧
      Unchanged s t [] ∧ MemoryKept s t ∧ t.draws = s.draws

/-! ### Branches -/

/-- B branches to the instruction's address plus 8 plus the signed word offset, modulo 2^32; BL also writes the address of the
next instruction to R14 of the current mode; nothing else changes (40_branch.md R223, R224). -/
def Obligations.BranchesReachTheirTarget : Prop :=
  ∀ (c : Cond) (off : BitVec 24) (s : State), condPassed c s.cpsr = true →
    (∃ t, exec (.b c off) s = .next t ∧ t.pc = BitVec.ofInt 32 (s.pc.toNat + 8 + 4 * off.toInt) ∧
      t.cpsr = s.cpsr ∧ Unchanged s t [] ∧ MemoryKept s t) ∧
    (∃ t, exec (.bl c off) s = .next t ∧ t.pc = BitVec.ofInt 32 (s.pc.toNat + 8 + 4 * off.toInt) ∧
      Holds t (bank s.cpsr.m 14#4) (s.pc + 4#32) ∧ t.cpsr = s.cpsr ∧ Unchanged s t [bank s.cpsr.m 14#4] ∧
      MemoryKept s t)

/-- BX (40_branch.md R222): bit 0 of the register set enters THUMB state at the address with bit 0 cleared; bits 1:0 clear stays in
ARM state; bit 1 set with bit 0 clear, and R15, are refused, the spec's decisions D3 and D7 (R221, R222,
notes/assumptions/13.md). No other bit of the CPSR, no register and no memory changes. -/
def Obligations.BranchAndExchange : Prop :=
  ∀ (c : Cond) (rn : Reg) (s : State), condPassed c s.cpsr = true →
    (rn = 15#4 → exec (.bx c rn) s = .refused .bxR15) ∧
    (rn ≠ 15#4 → (s.readReg 8#32 rn).getLsbD 0 = true →
      exec (.bx c rn) s =
        .next { s with cpsr := { s.cpsr with t := true }, pc := s.readReg 8#32 rn &&& 0xFFFFFFFE#32 }) ∧
    (rn ≠ 15#4 → (s.readReg 8#32 rn).getLsbD 0 = false → (s.readReg 8#32 rn).getLsbD 1 = false →
      exec (.bx c rn) s = .next { s with cpsr := { s.cpsr with t := false }, pc := s.readReg 8#32 rn }) ∧
    (rn ≠ 15#4 → (s.readReg 8#32 rn).getLsbD 0 = false → (s.readReg 8#32 rn).getLsbD 1 = true →
      exec (.bx c rn) s = .refused .unalignedPc)

/-! ### PSR transfers -/

/-- MRS (42_psr_transfer.md R301, R309): the twelve defined bits of the CPSR, or of the current mode's SPSR, go to their places in
Rd; bits 27:8 are the next free value, whatever it is; nothing else changes. -/
def Obligations.MrsReadsTheStatusRegister : Prop :=
  ∀ (c : Cond) (ps : Bool) (rd : Reg) (s : State) (p : PSR), condPassed c s.cpsr = true → rd ≠ 15#4 →
    (if ps then s.spsr = some p else p = s.cpsr) → s.pc ≠ 0xFFFFFFFC#32 →
    ∃ t v, exec (.mrs c ps rd) s = .next t ∧ Advanced s t ∧ Holds t (bank s.cpsr.m rd) v ∧
      v.getLsbD 31 = p.n ∧ v.getLsbD 30 = p.z ∧ v.getLsbD 29 = p.c ∧ v.getLsbD 28 = p.v ∧
      v.extractLsb' 8 20 = Config.draw 20 s.draws ∧ v.getLsbD 7 = p.i ∧ v.getLsbD 6 = p.f ∧ v.getLsbD 5 = p.t ∧
      v.extractLsb' 0 5 = p.m ∧
      t.cpsr = s.cpsr ∧ Unchanged s t [bank s.cpsr.m rd] ∧ MemoryKept s t ∧ t.draws = s.draws + 1

/-- MSR of a register to the whole PSR (42_psr_transfer.md R302, R305, R309). CPSR: in User mode the flags alone change; in a
privileged mode the twelve bits are those of the register, and a register whose bit 5 differs from T is refused: the manual
forbids such a change, refusing it is the spec's decision D7 (R306, notes/assumptions/13.md). SPSR: the SPSR of the current
mode takes the twelve bits, T included; every other SPSR, the CPSR, the registers and memory stay. -/
def Obligations.MsrWritesTheWholeStatusRegister : Prop :=
  ∀ (c : Cond) (rm : Reg) (s : State) (v : Word), condPassed c s.cpsr = true → rm ≠ 15#4 → v = s.readReg 8#32 rm →
    (s.cpsr.m = 0b10000#5 → s.pc ≠ 0xFFFFFFFC#32 →
      exec (.msrReg c false rm) s = .next { s with
        pc := s.pc + 4#32
        cpsr := { s.cpsr with n := v.getLsbD 31, z := v.getLsbD 30, c := v.getLsbD 29, v := v.getLsbD 28 } }) ∧
    (s.cpsr.m ≠ 0b10000#5 → v.getLsbD 5 = s.cpsr.t → s.pc ≠ 0xFFFFFFFC#32 →
      exec (.msrReg c false rm) s = .next { s with
        pc := s.pc + 4#32
        cpsr := ⟨v.getLsbD 31, v.getLsbD 30, v.getLsbD 29, v.getLsbD 28, v.getLsbD 7, v.getLsbD 6, v.getLsbD 5,
          v.extractLsb' 0 5⟩ }) ∧
    (s.cpsr.m ≠ 0b10000#5 → v.getLsbD 5 ≠ s.cpsr.t → exec (.msrReg c false rm) s = .refused .tBitChange) ∧
    (∀ m : Mode, s.mode = some m → m ≠ .usr → m ≠ .sys → s.pc ≠ 0xFFFFFFFC#32 →
      ∃ t, exec (.msrReg c true rm) s = .next t ∧ Advanced s t ∧
        t.spsrOf m = some ⟨v.getLsbD 31, v.getLsbD 30, v.getLsbD 29, v.getLsbD 28, v.getLsbD 7, v.getLsbD 6,
          v.getLsbD 5, v.extractLsb' 0 5⟩ ∧
        (∀ m', m' ≠ m → t.spsrOf m' = s.spsrOf m') ∧ t.cpsr = s.cpsr ∧ t.regs = s.regs ∧ t.mem = s.mem)

/-- MSR to the flag bits, from a register and from an immediate (42_psr_transfer.md R303, R304): in every mode only N, Z, C and V of
the CPSR, or of the current mode's SPSR, take bits 31 to 28 of the source. -/
def Obligations.MsrWritesTheFlags : Prop :=
  ∀ (c : Cond) (rm : Reg) (o : RotImm) (s : State) (v : Word) (i : Bool → Instr), condPassed c s.cpsr = true →
    (rm ≠ 15#4 ∧ (i = fun pd => .msrFlagsReg c pd rm) ∧ v = s.readReg 8#32 rm ∨
      (i = fun pd => .msrFlagsImm c pd o) ∧ v = rotImmValue o) → s.pc ≠ 0xFFFFFFFC#32 →
    exec (i false) s = .next { s with
      pc := s.pc + 4#32
      cpsr := { s.cpsr with n := v.getLsbD 31, z := v.getLsbD 30, c := v.getLsbD 29, v := v.getLsbD 28 } } ∧
    (∀ m p, s.mode = some m → s.spsrOf m = some p →
      ∃ t, exec (i true) s = .next t ∧ Advanced s t ∧
        t.spsrOf m = some { p with n := v.getLsbD 31, z := v.getLsbD 30, c := v.getLsbD 29, v := v.getLsbD 28 } ∧
        (∀ m', m' ≠ m → t.spsrOf m' = s.spsrOf m') ∧ t.cpsr = s.cpsr ∧ t.regs = s.regs ∧ t.mem = s.mem)

/-! ### Multiplies -/

/-- MUL and MLA complete (43_multiply.md R320 to R324): Rd is the product, or product and sum, of the operands read as unsigned
numbers, modulo 2^32; with S, N and Z follow the result, C is a free value, V stays; nothing else changes. -/
def Obligations.MultiplyWritesItsResult : Prop :=
  ∀ (i : Instr) (s : State) (f : MulForm), mulForm i s = some f → condPassed f.cond s.cpsr = true →
    f.broken = none → s.pc ≠ 0xFFFFFFFC#32 →
    (∀ c sf rd rn rs rm, i = .mul c sf rd rn rs rm →
      f.result.toNat = ((s.readReg 8#32 rm).toNat * (s.readReg 8#32 rs).toNat) % 2 ^ 32) ∧
    (∀ c sf rd rn rs rm, i = .mla c sf rd rn rs rm →
      f.result.toNat =
        ((s.readReg 8#32 rm).toNat * (s.readReg 8#32 rs).toNat + (s.readReg 8#32 rn).toNat) % 2 ^ 32) ∧
    ∃ t, exec i s = .next t ∧ Advanced s t ∧ Holds t (bank s.cpsr.m f.rd) f.result ∧
      t.cpsr = (if f.sf then
        { s.cpsr with n := f.result.getLsbD 31, z := f.result == 0#32, c := (Config.draw 1 s.draws).getLsbD 0 }
        else s.cpsr) ∧
      Unchanged s t [bank s.cpsr.m f.rd] ∧ MemoryKept s t

/-- The long multiplies complete (43_multiply.md R330 to R336): RdHi and RdLo are the two words of the exact result modulo 2^64,
unsigned or signed, with or without the accumulator; with S, N and Z follow the 64-bit result and C and V are free
values; nothing else changes. -/
def Obligations.LongMultiplyWritesItsResult : Prop :=
  ∀ (i : Instr) (s : State) (f : LongForm) (r : BitVec 64), longForm i = some f → condPassed f.cond s.cpsr = true →
    f.broken = none → s.pc ≠ 0xFFFFFFFC#32 → r = BitVec.ofInt 64 (f.exact s) →
    ∃ t, exec i s = .next t ∧ Advanced s t ∧
      Holds t (bank s.cpsr.m f.rdHi) (r.extractLsb' 32 32) ∧ Holds t (bank s.cpsr.m f.rdLo) (r.extractLsb' 0 32) ∧
      t.cpsr = (if f.sf then
        { s.cpsr with n := r.getLsbD 63, z := r == 0#64, c := (Config.draw 1 s.draws).getLsbD 0,
                      v := (Config.draw 1 (s.draws + 1)).getLsbD 0 }
        else s.cpsr) ∧
      Unchanged s t [bank s.cpsr.m f.rdHi, bank s.cpsr.m f.rdLo] ∧ MemoryKept s t

/-! ### Single transfers -/

/-- The eighteen loads complete from ordinary memory with a destination other than R15: the destination receives the loaded value
(a word rotated by the low address bits, a byte or halfword extended), the base its modified value where the form
writes it back, nothing else changes (44_single_data_transfer.md R350 to R357, R360, R363 to R367, 20_memory.md
R110). -/
def Obligations.LoadsReadMemory : Prop :=
  ∀ (i : Instr) (s : State) (f : TransferForm), loadForm i s = some f → condPassed f.cond s.cpsr = true →
    f.broken = none → f.rd ≠ 15#4 → s.pc ≠ 0xFFFFFFFC#32 →
    s.CanRead f.kind.size f.x.addr f.priv → (f.kind.size = .half → f.x.addr.getLsbD 0 = false) →
    ∃ t, exec i s = .next t ∧ Advanced s t ∧
      Holds t (bank s.cpsr.m f.rd)
        (f.kind.value f.x.addr (s.readMem f.kind.size (alignDown f.kind.size f.x.addr))) ∧
      (∀ v, f.x.writeBack = some v → Holds t (bank s.cpsr.m f.rn) v) ∧
      t.cpsr = s.cpsr ∧
      Unchanged s t (bank s.cpsr.m f.rd :: if f.x.writeBack.isSome then [bank s.cpsr.m f.rn] else []) ∧
      MemoryKept s t ∧ t.draws = s.draws

/-- The eighteen loads into R15: the loaded value goes to the PC under the alignment rule, the base is written back, the CPSR
stays (44_single_data_transfer.md R356, R357, R366, 40_branch.md R221). That byte and halfword loads into R15 follow the rule
for every write of the PC is deduced (notes/assumptions/30.md); refusing an unaligned value is the spec's decision D3
(notes/assumptions/13.md). -/
def Obligations.LoadsIntoThePc : Prop :=
  ∀ (i : Instr) (s : State) (f : TransferForm) (v : Word), loadForm i s = some f → condPassed f.cond s.cpsr = true →
    f.broken = none → f.rd = 15#4 → s.cpsr.t = false → s.CanRead f.kind.size f.x.addr f.priv →
    (f.kind.size = .half → f.x.addr.getLsbD 0 = false) →
    v = f.kind.value f.x.addr (s.readMem f.kind.size (alignDown f.kind.size f.x.addr)) →
    (wordAligned v = true → ∃ t, exec i s = .next t ∧ t.pc = v ∧ t.cpsr = s.cpsr ∧ t.bankHazard = s.bankHazard ∧
      (∀ b, f.x.writeBack = some b → Holds t (bank s.cpsr.m f.rn) b) ∧
      Unchanged s t (if f.x.writeBack.isSome then [bank s.cpsr.m f.rn] else []) ∧ MemoryKept s t) ∧
    (wordAligned v = false → exec i s = .refused .unalignedPc)

/-- LDRH and LDRSH at an odd address complete with a free value and no memory access; a free value for R15 goes to the PC
under the alignment rule (20_memory.md R112, 44_single_data_transfer.md R364, R366, R367). That no access is made is
notes/assumptions/35.md, that R15 may be loaded so notes/assumptions/30.md, that an unaligned value is refused the spec's
decision D3 (notes/assumptions/13.md). -/
def Obligations.OddHalfwordLoadsAreFree : Prop :=
  ∀ (i : Instr) (s : State) (f : TransferForm), loadForm i s = some f → condPassed f.cond s.cpsr = true →
    f.broken = none → f.kind.size = .half → f.x.addr.getLsbD 0 = true →
    (f.rd ≠ 15#4 → s.pc ≠ 0xFFFFFFFC#32 →
      ∃ t, exec i s = .next t ∧ Advanced s t ∧ Holds t (bank s.cpsr.m f.rd) (Config.draw 32 s.draws) ∧
        (∀ v, f.x.writeBack = some v → Holds t (bank s.cpsr.m f.rn) v) ∧ t.cpsr = s.cpsr ∧
        Unchanged s t (bank s.cpsr.m f.rd :: if f.x.writeBack.isSome then [bank s.cpsr.m f.rn] else []) ∧
        MemoryKept s t ∧ t.draws = s.draws + 1) ∧
    (f.rd = 15#4 → s.cpsr.t = false →
      if wordAligned (Config.draw 32 s.draws) = true then
        ∃ t, exec i s = .next t ∧ t.pc = Config.draw 32 s.draws ∧ t.cpsr = s.cpsr ∧ t.bankHazard = s.bankHazard ∧
          (∀ v, f.x.writeBack = some v → Holds t (bank s.cpsr.m f.rn) v) ∧
          Unchanged s t (if f.x.writeBack.isSome then [bank s.cpsr.m f.rn] else []) ∧
          MemoryKept s t ∧ t.draws = s.draws + 1
      else exec i s = .refused .unalignedPc)

/-- The fourteen stores complete into RAM: the unit at the aligned address reads as the low part of the stored register (R15 as
the instruction's address plus 12), every other byte of memory as before, the base is written back where the form says
so, nothing else changes (44_single_data_transfer.md R351, R352, R358 to R360, R368, 20_memory.md R103, R111, R120). -/
def Obligations.StoresWriteMemory : Prop :=
  ∀ (i : Instr) (s : State) (f : TransferForm), storeForm i s = some f → condPassed f.cond s.cpsr = true →
    f.broken = none → s.pc ≠ 0xFFFFFFFC#32 → s.CanWrite f.kind.size f.x.addr f.priv →
    (∀ x, touches f.kind.size f.x.addr x → kindAt s.map x = some .ram) →
    (f.kind.size = .half → f.x.addr.getLsbD 0 = false) →
    (f.kind.size = .word → s.refusesUnaligned f.x.addr = false) →
    ∃ t, exec i s = .next t ∧ Advanced s t ∧
      (t.readMem f.kind.size (alignDown f.kind.size f.x.addr)).toNat =
        (s.readReg 12#32 f.rd).toNat % 2 ^ (8 * f.kind.size.bytes) ∧
      MemoryKeptOutside s t f.kind.size f.x.addr ∧
      (∀ v, f.x.writeBack = some v → Holds t (bank s.cpsr.m f.rn) v) ∧ t.cpsr = s.cpsr ∧
      Unchanged s t (if f.x.writeBack.isSome then [bank s.cpsr.m f.rn] else []) ∧ t.draws = s.draws

/-- A form that breaks a restriction of its class is refused under the restriction's name, once its condition passes: data
processing (41_data_processing.md R248, R264, D24), single transfers (44_single_data_transfer.md R352 to R354, R363,
R369; STRH at an odd address, R368; an unaligned word store where MISALIGNED_WORD says refuse, 20_memory.md R111),
multiplies (43_multiply.md R323, R335), PSR transfers that name R15 or the SPSR in a mode without one
(42_psr_transfer.md R307, R308). Refusing is the spec's decision (D7, D24, D29); which name a form that breaks several
restrictions gets is the model's (notes/assumptions/13.md). -/
def Obligations.RestrictedFormsAreRefused : Prop :=
  ∀ (i : Instr) (s : State),
    (∀ (f : DataForm) (r : Refusal), resultForm i s = some f ∨ testForm i s = some f →
      condPassed f.cond s.cpsr = true → f.broken = some r → exec i s = .refused r) ∧
    (∀ (f : TransferForm) (r : Refusal), loadForm i s = some f ∨ storeForm i s = some f →
      condPassed f.cond s.cpsr = true → f.broken = some r → exec i s = .refused r) ∧
    (∀ f : TransferForm, storeForm i s = some f → condPassed f.cond s.cpsr = true → f.broken = none →
      (f.kind.size = .half → f.x.addr.getLsbD 0 = true → exec i s = .refused .strhOdd) ∧
      (f.kind.size = .word → s.refusesUnaligned f.x.addr = true → exec i s = .refused .unalignedWord)) ∧
    (∀ (f : MulForm) (r : Refusal), mulForm i s = some f → condPassed f.cond s.cpsr = true →
      f.broken = some r → exec i s = .refused r) ∧
    (∀ (f : LongForm) (r : Refusal), longForm i = some f → condPassed f.cond s.cpsr = true →
      f.broken = some r → exec i s = .refused r) ∧
    (∀ (c : Cond) (ps : Bool), condPassed c s.cpsr = true →
      i = .mrs c ps 15#4 ∨ i = .msrReg c ps 15#4 ∨ i = .msrFlagsReg c ps 15#4 → exec i s = .refused .psrR15) ∧
    (∀ (c : Cond) (r : Reg) (o : RotImm), condPassed c s.cpsr = true → s.spsr = none → r ≠ 15#4 →
      i = .mrs c true r ∨ i = .msrReg c true r ∨ i = .msrFlagsReg c true r ∨ i = .msrFlagsImm c true o →
      exec i s = .refused .noSpsr)

/-- A single transfer whose access aborts takes the data abort: the base is written back, the destination and memory stay, the
link value is the instruction's address plus 8 (44_single_data_transfer.md R355, R371, 60_exceptions.md R515). I set on
entry is the spec's presumption (notes/assumptions/18.md); that an aborted store into the prefetched words takes the abort
is the model's choice (notes/assumptions/14.md). -/
def Obligations.SingleTransferDataAbort : Prop :=
  ∀ (i : Instr) (s : State) (f : TransferForm), condPassed f.cond s.cpsr = true → f.broken = none →
    (loadForm i s = some f ∧ s.abortsAccess .read f.x.addr f.kind.size f.priv = true ∨
      storeForm i s = some f ∧ s.abortsAccess .write f.x.addr f.kind.size f.priv = true ∧
        (f.kind.size = .word → s.refusesUnaligned f.x.addr = false)) →
    (f.kind.size = .half → f.x.addr.getLsbD 0 = false) →
    ∃ t, exec i s = .next t ∧ t.pc = 0x00000010#32 ∧ t.gpr .r14abt = s.pc + 8#32 ∧ t.spsrAbt = s.cpsr ∧
      t.cpsr = { s.cpsr with m := 0b10111#5, t := false, i := true } ∧ t.mem = s.mem ∧ t.sfrLog = s.sfrLog ∧
      (∀ q v, f.x.writeBack = some v → bank s.cpsr.m f.rn = some q → q ≠ .r14abt → t.gpr q = v) ∧
      (∀ q, q ≠ .r14abt → (f.x.writeBack = none ∨ bank s.cpsr.m f.rn ≠ some q) → t.gpr q = s.gpr q) ∧
      t.spsrFiq = s.spsrFiq ∧ t.spsrIrq = s.spsrIrq ∧ t.spsrSvc = s.spsrSvc ∧ t.spsrUnd = s.spsrUnd

/-- A word stored by STR and loaded back by LDR from the same register address is the word, in either byte order, and a byte loaded
from the same aligned address is its least significant byte in little endian and its most significant in big endian
(20_memory.md R103, R106). -/
def Obligations.LoadAfterStore : Prop :=
  ∀ (s : State) (a v : Word), wordAligned a = true →
    (∀ x, touches .word a x → kindAt s.map x = some .ram) →
    (s.writeMem .word a v).readMem .word a = v ∧
    ((s.writeMem .word a v).readMem .byte a).toNat =
      (if s.bigend then v.toNat / 2 ^ 24 else v.toNat % 2 ^ 8) ∧
    ((s.writeMem .word a v).readMem .half (a + 2#32)).toNat =
      (if s.bigend then v.toNat % 2 ^ 16 else v.toNat / 2 ^ 16)

/-! ### Block transfers -/

/-- LDM with S = 0 and R15 not in the list, all four addressing modes, completes: each register of the list receives the word at its
address, lowest register lowest address; the base is written back unless it is in the list; nothing else changes
(45_block_data_transfer.md R401 to R403, R406). The addresses of the decrementing forms and the absence of rotation are the
spec's presumptions (R402, 20_memory.md R114, notes/assumptions/21.md). -/
def Obligations.LoadMultipleLoadsItsRegisters : Prop :=
  ∀ (i : Instr) (s : State) (f : BlockForm), ldmForm i = some f → condPassed f.cond s.cpsr = true →
    f.broken s = none → f.list.getLsbD 15 = false → s.pc ≠ 0xFFFFFFFC#32 →
    (∀ k, k < (regsOf f.list).length → s.CanRead .word (f.addr s k) s.privileged) →
    ∃ t, exec i s = .next t ∧ Advanced s t ∧
      (∀ k, (h : k < (regsOf f.list).length) →
        Holds t (bank s.cpsr.m (regsOf f.list)[k]) (s.readMem .word (alignDown .word (f.addr s k)))) ∧
      (f.w = true → f.rn ∉ regsOf f.list → Holds t (bank s.cpsr.m f.rn) (f.newBase s)) ∧
      t.cpsr = s.cpsr ∧
      Unchanged s t ((regsOf f.list).map (bank s.cpsr.m) ++ if f.w then [bank s.cpsr.m f.rn] else []) ∧
      MemoryKept s t ∧ t.draws = s.draws

/-- LDM with S = 0 and R15 in the list: the PC receives the word at the highest address under the alignment rule, the other
listed registers their words, the base is written back unless it is in the list, the CPSR stays
(45_block_data_transfer.md R407, 40_branch.md R221). Refusing an unaligned word is the spec's decision D3
(notes/assumptions/13.md); the addresses of the decrementing forms and the absence of rotation are the spec's presumptions
(R402, 20_memory.md R114, notes/assumptions/21.md). -/
def Obligations.LoadMultipleLoadsThePc : Prop :=
  ∀ (i : Instr) (s : State) (f : BlockForm) (v : Word), ldmForm i = some f → condPassed f.cond s.cpsr = true →
    f.broken s = none → f.list.getLsbD 15 = true → s.cpsr.t = false →
    (∀ k, k < (regsOf f.list).length → s.CanRead .word (f.addr s k) s.privileged) →
    v = s.readMem .word (alignDown .word (f.addr s ((regsOf f.list).length - 1))) →
    (wordAligned v = true → ∃ t, exec i s = .next t ∧ t.pc = v ∧ t.cpsr = s.cpsr ∧
      (∀ k, (h : k + 1 < (regsOf f.list).length) →
        Holds t (bank s.cpsr.m (regsOf f.list)[k]) (s.readMem .word (alignDown .word (f.addr s k)))) ∧
      (f.w = true → f.rn ∉ regsOf f.list → Holds t (bank s.cpsr.m f.rn) (f.newBase s)) ∧
      Unchanged s t ((regsOf f.list).map (bank s.cpsr.m) ++ if f.w then [bank s.cpsr.m f.rn] else []) ∧
      MemoryKept s t) ∧
    (wordAligned v = false → exec i s = .refused .unalignedPc)

/-- LDM with S = 1 and R15 in the list, in a mode that has an SPSR, restores the CPSR from it together with the PC, whose
alignment is judged in the restored state; the registers are those of the mode before (45_block_data_transfer.md R408);
in User mode it is refused, in System mode there is no SPSR (R404, decisions D7, D29, and D3 for an unaligned word,
notes/assumptions/13.md). The addresses of the decrementing forms and the absence of rotation are the spec's presumptions
(R402, 20_memory.md R114, notes/assumptions/21.md). -/
def Obligations.LoadMultipleRestoresTheCpsr : Prop :=
  ∀ (c : Cond) (p u w : Bool) (rn : Reg) (list : BitVec 16) (s : State) (f : BlockForm),
    f = ⟨c, p, u, w, rn, list⟩ → condPassed c s.cpsr = true → list.getLsbD 15 = true →
    (∀ (saved : PSR) (v : Word), s.spsr = some saved → f.broken s = none →
      (∀ k, k < (regsOf list).length → s.CanRead .word (f.addr s k) s.privileged) →
      v = s.readMem .word (alignDown .word (f.addr s ((regsOf list).length - 1))) →
      (saved.t = true ∨ wordAligned v = true →
        ∃ t, exec (.ldmRestore c p u w rn list) s = .next t ∧
          t.pc = (if saved.t then v &&& 0xFFFFFFFE#32 else v) ∧ t.cpsr = saved ∧
          (∀ k, (h : k + 1 < (regsOf list).length) →
            Holds t (bank s.cpsr.m (regsOf list)[k]) (s.readMem .word (alignDown .word (f.addr s k)))) ∧
          (w = true → rn ∉ regsOf list → Holds t (bank s.cpsr.m rn) (f.newBase s)) ∧
          Unchanged s t ((regsOf list).map (bank s.cpsr.m) ++ if w then [bank s.cpsr.m rn] else []) ∧
          MemoryKept s t) ∧
      (saved.t = false → wordAligned v = false →
        exec (.ldmRestore c p u w rn list) s = .refused .unalignedPc)) ∧
    (s.cpsr.m = 0b10000#5 → exec (.ldmRestore c p u w rn list) s = .refused .sBitUser) ∧
    (s.cpsr.m = 0b11111#5 → exec (.ldmRestore c p u w rn list) s = .refused .noSpsr)

/-- User-bank transfers, S = 1 and W = 0, in a privileged mode complete (45_block_data_transfer.md R409). LDM without R15: the
registers of the User bank are loaded and the hazard of the next instruction is raised exactly in the modes that have
banked registers (70_reset_and_hazards.md R621; that System mode raises none is deduced, notes/assumptions/15.md). STM: the
words of the block hold the registers of the User bank, R15 as the instruction's address plus 12. The base is the current
mode's; the accesses have the attribute of the mode (notes/assumptions/33.md); the addresses of the decrementing forms and
the absence of rotation are the spec's presumptions (R402, 20_memory.md R114, notes/assumptions/21.md). -/
def Obligations.UserBankTransfers : Prop :=
  ∀ (c : Cond) (p u : Bool) (rn : Reg) (list : BitVec 16) (s : State) (f : BlockForm),
    f = ⟨c, p, u, false, rn, list⟩ → condPassed c s.cpsr = true → s.cpsr.m ≠ 0b10000#5 → f.broken s = none →
    s.pc ≠ 0xFFFFFFFC#32 →
    (list.getLsbD 15 = false →
      (∀ k, k < (regsOf list).length → s.CanRead .word (f.addr s k) s.privileged) →
      ∃ t, exec (.ldmUser c p u false rn list) s = .next t ∧ t.pc = s.pc + 4#32 ∧ t.cpsr = s.cpsr ∧
        t.bankHazard = s.spsr.isSome ∧
        (∀ k, (h : k < (regsOf list).length) →
          Holds t (userBank (regsOf list)[k]) (s.readMem .word (alignDown .word (f.addr s k)))) ∧
        Unchanged s t ((regsOf list).map userBank) ∧ MemoryKept s t) ∧
    ((∀ k, k < (regsOf list).length → s.CanWrite .word (f.addr s k) s.privileged ∧
        ∀ x, touches .word (f.addr s k) x → kindAt s.map x = some .ram) →
      ∃ t, exec (.stmUser c p u false rn list) s = .next t ∧ Advanced s t ∧
        (∀ k, (h : k < (regsOf list).length) →
          t.readMem .word (alignDown .word (f.addr s k)) = s.readUserReg (regsOf list)[k]) ∧
        (∀ x, (∀ k, k < (regsOf list).length → ¬ touches .word (f.addr s k) x) → t.mem.read x = s.mem.read x) ∧
        t.cpsr = s.cpsr ∧ Unchanged s t [])

/-- STM with S = 0, all four addressing modes, completes into RAM: each word of the block holds its register, R15 as the
instruction's address plus 12, the base its old value if it is first and its new value if it is written back and later;
every other byte stays; the base is written back (45_block_data_transfer.md R402, R403, R405). The addresses of the
decrementing forms are the spec's presumption (notes/assumptions/21.md). -/
def Obligations.StoreMultipleStoresItsRegisters : Prop :=
  ∀ (i : Instr) (s : State) (f : BlockForm), stmForm i = some f → condPassed f.cond s.cpsr = true →
    f.broken s = none → s.pc ≠ 0xFFFFFFFC#32 →
    (∀ k, k < (regsOf f.list).length → s.CanWrite .word (f.addr s k) s.privileged ∧
      ∀ x, touches .word (f.addr s k) x → kindAt s.map x = some .ram) →
    ∃ t, exec i s = .next t ∧ Advanced s t ∧
      (∀ k, (h : k < (regsOf f.list).length) →
        t.readMem .word (alignDown .word (f.addr s k)) =
          f.stored s k (regsOf f.list)[k] (s.readReg 12#32 (regsOf f.list)[k])) ∧
      (∀ x, (∀ k, k < (regsOf f.list).length → ¬ touches .word (f.addr s k) x) → t.mem.read x = s.mem.read x) ∧
      (f.w = true → Holds t (bank s.cpsr.m f.rn) (f.newBase s)) ∧
      t.cpsr = s.cpsr ∧ Unchanged s t (if f.w then [bank s.cpsr.m f.rn] else [])

/-- A block transfer that breaks a restriction is refused under its name: an empty list, base R15, an unaligned base where
MISALIGNED_WORD says refuse (45_block_data_transfer.md R401, R404, 20_memory.md R114); a user-bank transfer in User
mode (R404) or with write-back (R409). Refusing is the spec's decision (D7, D2 for the base); which name a form that breaks
several restrictions gets, the S bit and write-back before the others, is the model's (notes/assumptions/13.md). -/
def Obligations.BlockTransferRestrictions : Prop :=
  ∀ (c : Cond) (p u w : Bool) (rn : Reg) (list : BitVec 16) (s : State) (f : BlockForm),
    f = ⟨c, p, u, w, rn, list⟩ → condPassed c s.cpsr = true →
    (∀ r, f.broken s = some r →
      (∀ i, ldmForm i = some f ∨ stmForm i = some f → exec i s = .refused r) ∧
      (s.spsr.isSome = true → exec (.ldmRestore c p u w rn list) s = .refused r) ∧
      (s.privileged = true → w = false →
        exec (.ldmUser c p u w rn list) s = .refused r ∧ exec (.stmUser c p u w rn list) s = .refused r)) ∧
    (s.cpsr.m = 0b10000#5 →
      exec (.ldmUser c p u w rn list) s = .refused .sBitUser ∧
      exec (.stmUser c p u w rn list) s = .refused .sBitUser) ∧
    (s.cpsr.m ≠ 0b10000#5 → w = true →
      exec (.ldmUser c p u w rn list) s = .refused .userBankWriteBack ∧
      exec (.stmUser c p u w rn list) s = .refused .userBankWriteBack)

/-- An LDM whose `k`-th transfer aborts takes the data abort, for every LDM: S = 0, the form that restores the CPSR, and the
user-bank form. The listed registers before the `k`-th, of the current bank or of the User bank, hold their loaded words, the
aborting and later ones stay; the base of the current mode holds its modified value if written back and else its original
one; the CPSR is saved, not restored, and the PC is not loaded (45_block_data_transfer.md R408 to R410, 60_exceptions.md
R515). I set on entry is the spec's presumption (notes/assumptions/18.md), the addresses of the decrementing forms and the
absence of rotation too (R402, 20_memory.md R114, notes/assumptions/21.md). -/
def Obligations.LoadMultipleDataAbort : Prop :=
  ∀ (i : Instr) (s : State) (f : BlockForm) (names : Reg → Option PhysReg) (k : Nat),
    ldmAny i s = some (f, names) → condPassed f.cond s.cpsr = true → sBitAllowed i s = true →
    f.broken s = none → k < (regsOf f.list).length →
    (∀ j, j < k → s.CanRead .word (f.addr s j) s.privileged) →
    s.abortsAccess .read (f.addr s k) .word s.privileged = true →
    ∃ t, exec i s = .next t ∧ t.pc = 0x00000010#32 ∧ t.gpr .r14abt = s.pc + 8#32 ∧ t.spsrAbt = s.cpsr ∧
      t.cpsr = { s.cpsr with m := 0b10111#5, t := false, i := true } ∧ t.mem = s.mem ∧
      (∀ q, bank s.cpsr.m f.rn = some q → q ≠ .r14abt →
        t.gpr q = (if f.w then f.newBase s else s.readReg 8#32 f.rn)) ∧
      (∀ j q, (h : j < (regsOf f.list).length) → names (regsOf f.list)[j] = some q → q ≠ .r14abt →
        bank s.cpsr.m f.rn ≠ some q →
        t.gpr q = (if j < k then s.readMem .word (alignDown .word (f.addr s j)) else s.gpr q)) ∧
      (∀ q, q ≠ .r14abt → some q ∉ (regsOf f.list).map names → some q ≠ bank s.cpsr.m f.rn →
        t.gpr q = s.gpr q) ∧
      t.spsrFiq = s.spsrFiq ∧ t.spsrIrq = s.spsrIrq ∧ t.spsrSvc = s.spsrSvc ∧ t.spsrUnd = s.spsrUnd

/-- An STM, S = 0 or user-bank, some of whose words abort, the others going to RAM, takes the data abort after all of them: the
words that do not abort are stored, every other byte of memory stays, the base is written back as if nothing had aborted
(45_block_data_transfer.md R409, R410, decision D10, 60_exceptions.md R515). I set on entry is the spec's presumption
(notes/assumptions/18.md), the addresses of the decrementing forms too (R402, notes/assumptions/21.md); that an aborted word
over the prefetched words is not judged is the model's choice (notes/assumptions/14.md). -/
def Obligations.StoreMultipleDataAbort : Prop :=
  ∀ (i : Instr) (s : State) (f : BlockForm) (value : Reg → Word),
    stmAny i s = some (f, value) → condPassed f.cond s.cpsr = true → sBitAllowed i s = true →
    f.broken s = none →
    (∀ k, k < (regsOf f.list).length → s.abortsAccess .write (f.addr s k) .word s.privileged = true ∨
      (s.CanWrite .word (f.addr s k) s.privileged ∧
        ∀ x, touches .word (f.addr s k) x → kindAt s.map x = some .ram)) →
    (∃ k, k < (regsOf f.list).length ∧ s.abortsAccess .write (f.addr s k) .word s.privileged = true) →
    ∃ t, exec i s = .next t ∧ t.pc = 0x00000010#32 ∧ t.gpr .r14abt = s.pc + 8#32 ∧ t.spsrAbt = s.cpsr ∧
      t.cpsr = { s.cpsr with m := 0b10111#5, t := false, i := true } ∧
      (∀ q, bank s.cpsr.m f.rn = some q → q ≠ .r14abt →
        t.gpr q = (if f.w then f.newBase s else s.readReg 8#32 f.rn)) ∧
      (∀ q, q ≠ .r14abt → some q ≠ bank s.cpsr.m f.rn → t.gpr q = s.gpr q) ∧
      (∀ k, (h : k < (regsOf f.list).length) → s.abortsAccess .write (f.addr s k) .word s.privileged = false →
        t.readMem .word (alignDown .word (f.addr s k)) =
          f.stored s k (regsOf f.list)[k] (value (regsOf f.list)[k])) ∧
      (∀ x, (∀ k, k < (regsOf f.list).length → s.abortsAccess .write (f.addr s k) .word s.privileged = false →
        ¬ touches .word (f.addr s k) x) → t.mem.read x = s.mem.read x) ∧
      t.spsrFiq = s.spsrFiq ∧ t.spsrIrq = s.spsrIrq ∧ t.spsrSvc = s.spsrSvc ∧ t.spsrUnd = s.spsrUnd

/-! ### Swaps -/

/-- SWP and SWPB complete in RAM as one step (46_swap_swi.md R431, 20_memory.md R110, R115): Rd receives what memory held (a word
rotated by the low address bits, a byte zero extended), memory receives Rm, both operands being read first; every other
byte and register stays. -/
def Obligations.SwapExchangesRegisterAndMemory : Prop :=
  ∀ (c : Cond) (rn rd rm : Reg) (s : State) (byteForm : Bool) (z : Size) (k : LoadKind) (i : Instr) (a : Word),
    (z = if byteForm then .byte else .word) → (k = if byteForm then .byte else .word) →
    (i = if byteForm then .swpb c rn rd rm else .swp c rn rd rm) → a = s.readReg 8#32 rn →
    condPassed c s.cpsr = true → rn ≠ 15#4 → rd ≠ 15#4 → rm ≠ 15#4 → s.pc ≠ 0xFFFFFFFC#32 →
    s.CanRead z a s.privileged → s.CanWrite z a s.privileged → (byteForm = false → s.refusesUnaligned a = false) →
    (∀ x, touches z a x → kindAt s.map x = some .ram) →
    ∃ t, exec i s = .next t ∧ Advanced s t ∧
      Holds t (bank s.cpsr.m rd) (k.value a (s.readMem z (alignDown z a))) ∧
      (t.readMem z (alignDown z a)).toNat = (s.readReg 8#32 rm).toNat % 2 ^ (8 * z.bytes) ∧
      MemoryKeptOutside s t z a ∧ t.cpsr = s.cpsr ∧ Unchanged s t [bank s.cpsr.m rd]

/-- A swap whose read or write aborts is aborted as though it had not been executed, and takes the data abort (46_swap_swi.md
R433); that the event and the free value of a completed special-register read are discarded with it is deduced
(notes/assumptions/29.md). A swap that names R15, and a word swap at an unaligned address where MISALIGNED_WORD says refuse,
is refused (R431, 20_memory.md R115, decisions D7 and D2, notes/assumptions/13.md). -/
def Obligations.SwapAbortsAsAWhole : Prop :=
  ∀ (c : Cond) (rn rd rm : Reg) (s : State), condPassed c s.cpsr = true →
    (rn = 15#4 ∨ rd = 15#4 ∨ rm = 15#4 →
      exec (.swp c rn rd rm) s = .refused .swapR15 ∧ exec (.swpb c rn rd rm) s = .refused .swapR15) ∧
    (rn ≠ 15#4 → rd ≠ 15#4 → rm ≠ 15#4 →
      (s.refusesUnaligned (s.readReg 8#32 rn) = true → exec (.swp c rn rd rm) s = .refused .unalignedWord) ∧
      (s.abortsAccess .read (s.readReg 8#32 rn) .byte s.privileged = true ∨
        (∃ d s1, loadUnit .byte (s.readReg 8#32 rn) s.privileged s = .done d s1) ∧
        s.abortsAccess .write (s.readReg 8#32 rn) .byte s.privileged = true →
        exec (.swpb c rn rd rm) s = .next (enterException .dataAbort (s.pc + 8#32) s)) ∧
      (s.refusesUnaligned (s.readReg 8#32 rn) = false →
        s.abortsAccess .read (s.readReg 8#32 rn) .word s.privileged = true ∨
        (∃ d s1, loadUnit .word (s.readReg 8#32 rn) s.privileged s = .done d s1) ∧
        s.abortsAccess .write (s.readReg 8#32 rn) .word s.privileged = true →
        exec (.swp c rn rd rm) s = .next (enterException .dataAbort (s.pc + 8#32) s)))

/-! ### Special registers, the prefetch window, hazards, privilege -/

/-- Access to the special registers (10_state.md R86): a load of a listed readable register with its unit at its address for the
byte order completes with a free value of the unit's width and one event; a store to a listed writable one completes with
one event and changes no memory; every other access in the window is refused. Two clauses are not R86's own but log entry
11's (notes/assumptions/11.md): that an access at an unaligned address of the window is judged at, and reaches the register at,
the aligned address is deduced, from what 20_memory.md R110 and R111 say of memory (R86 refuses another address within the
register and does not speak of alignment); that reads are recorded too is the model's choice. -/
def Obligations.SpecialRegisterAccess : Prop :=
  ∀ (z : Size) (a v : Word) (priv : Bool) (s : State), inSfrWindow a = true →
    s.abortsAccess .read a z priv = false → s.abortsAccess .write a z priv = false →
    overlapsPrefetch s.pc (alignDown z a) z.bytes = false →
    (∀ r, sfrRow s.bigend z (alignDown z a) = some r →
      (r.readable = true → ∃ t, loadUnit z a priv s = .done ((Config.draw (8 * z.bytes) s.draws).setWidth 32) t ∧
        t.sfrLog = s.sfrLog ++ [.read r.name z] ∧ t.mem = s.mem ∧ t.regs = s.regs ∧ t.cpsr = s.cpsr) ∧
      (r.readable = false → loadUnit z a priv s = .refused .sfrAccess) ∧
      (r.writable = true → ∃ t, storeUnit z a v priv s = .done () t ∧
        t.sfrLog = s.sfrLog ++ [.write r.name z v] ∧ t.mem = s.mem ∧ t.regs = s.regs ∧ t.cpsr = s.cpsr) ∧
      (r.writable = false → storeUnit z a v priv s = .refused .sfrAccess)) ∧
    (sfrRow s.bigend z (alignDown z a) = none →
      loadUnit z a priv s = .refused .sfrAccess ∧ storeUnit z a v priv s = .refused .sfrAccess)

/-- The single transfers and swaps on special registers, as instructions (10_state.md R86, R87, 20_memory.md R134). A load of a
listed readable register completes: Rd holds the free value of the unit's width (a word rotated by the low address bits, a byte
or halfword extended), or the PC under the alignment rule; a store to a listed writable one completes with its event and
changes no memory; a swap on a register that is both completes with its read and then its write, which 46_swap_swi.md R432 says
of SWP. Bases are written back, nothing else changes. On any other address, unit or direction of the window the instruction is
refused. These clauses are log entry 11's (notes/assumptions/11.md). Deduced: a word access at an unaligned address of the window
reaches the register at the aligned address, and a word so read is rotated by LDR and SWP (20_memory.md R110, R111 and R115 say
it of memory, and R86 refuses another address within the register); SWPB is a byte read and then a byte write of the
register; LDRSB and LDRSH are accesses of their units. The model's choice: reads are recorded. Besides, byte and halfword loads
into R15 are notes/assumptions/30.md, the refusal of an unaligned PC decision D3 (notes/assumptions/13.md), the order of the
tests of a store notes/assumptions/14.md. -/
def Obligations.SpecialRegisterTransfers : Prop :=
  ∀ (i : Instr) (s : State),
    (∀ f : TransferForm, loadForm i s = some f → condPassed f.cond s.cpsr = true → f.broken = none →
      inSfrWindow f.x.addr = true → s.abortsAccess .read f.x.addr f.kind.size f.priv = false →
      (f.kind.size = .half → f.x.addr.getLsbD 0 = false) →
      (∀ (r : SfrRow) (v : Word), sfrRow s.bigend f.kind.size (alignDown f.kind.size f.x.addr) = some r →
        r.readable = true →
        v = f.kind.value f.x.addr ((Config.draw (8 * f.kind.size.bytes) s.draws).setWidth 32) →
        (f.rd ≠ 15#4 → s.pc ≠ 0xFFFFFFFC#32 →
          ∃ t, exec i s = .next t ∧ Advanced s t ∧ Holds t (bank s.cpsr.m f.rd) v ∧
            (∀ b, f.x.writeBack = some b → Holds t (bank s.cpsr.m f.rn) b) ∧ t.cpsr = s.cpsr ∧
            t.sfrLog = s.sfrLog ++ [.read r.name f.kind.size] ∧
            Unchanged { s with sfrLog := t.sfrLog } t
              (bank s.cpsr.m f.rd :: if f.x.writeBack.isSome then [bank s.cpsr.m f.rn] else []) ∧
            MemoryKept s t ∧ t.draws = s.draws + 1) ∧
        (f.rd = 15#4 → s.cpsr.t = false →
          if wordAligned v = true then
            ∃ t, exec i s = .next t ∧ t.pc = v ∧ t.bankHazard = s.bankHazard ∧
              (∀ b, f.x.writeBack = some b → Holds t (bank s.cpsr.m f.rn) b) ∧ t.cpsr = s.cpsr ∧
              t.sfrLog = s.sfrLog ++ [.read r.name f.kind.size] ∧
              Unchanged { s with sfrLog := t.sfrLog } t
                (if f.x.writeBack.isSome then [bank s.cpsr.m f.rn] else []) ∧
              MemoryKept s t ∧ t.draws = s.draws + 1
          else exec i s = .refused .unalignedPc)) ∧
      ((∀ r, sfrRow s.bigend f.kind.size (alignDown f.kind.size f.x.addr) = some r → r.readable = false) →
        exec i s = .refused .sfrAccess)) ∧
    (∀ f : TransferForm, storeForm i s = some f → condPassed f.cond s.cpsr = true → f.broken = none →
      inSfrWindow f.x.addr = true → s.abortsAccess .write f.x.addr f.kind.size f.priv = false →
      overlapsPrefetch s.pc (alignDown f.kind.size f.x.addr) f.kind.size.bytes = false →
      (f.kind.size = .half → f.x.addr.getLsbD 0 = false) →
      (f.kind.size = .word → s.refusesUnaligned f.x.addr = false) →
      (∀ r : SfrRow, sfrRow s.bigend f.kind.size (alignDown f.kind.size f.x.addr) = some r → r.writable = true →
        s.pc ≠ 0xFFFFFFFC#32 →
        ∃ t, exec i s = .next t ∧ Advanced s t ∧
          t.sfrLog = s.sfrLog ++ [.write r.name f.kind.size
            (BitVec.ofNat 32 ((s.readReg 12#32 f.rd).toNat % 2 ^ (8 * f.kind.size.bytes)))] ∧
          (∀ b, f.x.writeBack = some b → Holds t (bank s.cpsr.m f.rn) b) ∧ t.cpsr = s.cpsr ∧
          Unchanged { s with sfrLog := t.sfrLog } t (if f.x.writeBack.isSome then [bank s.cpsr.m f.rn] else []) ∧
          MemoryKept s t ∧ t.draws = s.draws) ∧
      ((∀ r, sfrRow s.bigend f.kind.size (alignDown f.kind.size f.x.addr) = some r → r.writable = false) →
        exec i s = .refused .sfrAccess)) ∧
    (∀ (c : Cond) (rn rd rm : Reg) (byteForm : Bool) (z : Size) (k : LoadKind) (a : Word),
      (z = if byteForm then .byte else .word) → (k = if byteForm then .byte else .word) →
      (i = if byteForm then .swpb c rn rd rm else .swp c rn rd rm) → a = s.readReg 8#32 rn →
      condPassed c s.cpsr = true → rn ≠ 15#4 → rd ≠ 15#4 → rm ≠ 15#4 →
      (byteForm = false → s.refusesUnaligned a = false) → inSfrWindow a = true →
      s.abortsAccess .read a z s.privileged = false → s.abortsAccess .write a z s.privileged = false →
      overlapsPrefetch s.pc (alignDown z a) z.bytes = false →
      (∀ r : SfrRow, sfrRow s.bigend z (alignDown z a) = some r → r.readable = true → r.writable = true →
        s.pc ≠ 0xFFFFFFFC#32 →
        ∃ t, exec i s = .next t ∧ Advanced s t ∧
          Holds t (bank s.cpsr.m rd) (k.value a ((Config.draw (8 * z.bytes) s.draws).setWidth 32)) ∧
          t.sfrLog = s.sfrLog ++ [.read r.name z,
            .write r.name z (BitVec.ofNat 32 ((s.readReg 8#32 rm).toNat % 2 ^ (8 * z.bytes)))] ∧
          t.cpsr = s.cpsr ∧ Unchanged { s with sfrLog := t.sfrLog } t [bank s.cpsr.m rd] ∧ MemoryKept s t ∧
          t.draws = s.draws + 1) ∧
      ((∀ r, sfrRow s.bigend z (alignDown z a) = some r → (r.readable && r.writable) = false) →
        exec i s = .refused .sfrAccess))

/-- Block transfers on special registers complete (10_state.md R86, 20_memory.md R134). LDM, S = 0 or user-bank: the `k`-th listed
register holds the `k`-th free value from here, unrotated, and the reads are recorded in order; R15, last, takes its free value
under the alignment rule, with S = 0 in the state as it is (45_block_data_transfer.md R407), with S = 1 in the state restored
from the SPSR (R408). STM: the writes are recorded in order with the values of the registers, and no memory changes. The base
is written back as ever. Log entry 11 (notes/assumptions/11.md) deduces that each transfer is a word access of the register, and
that under MISALIGNED_WORD = align an unaligned base reaches the registers at the aligned addresses, which R404 and 20_memory.md
R114 say of every transfer without naming the window (R86 refuses another address within the register); that reads are
recorded is its choice. The addresses of the decrementing forms and the absence of rotation are the spec's presumptions
(notes/assumptions/21.md), refusing an unaligned PC its decision D3 (40_branch.md R221, notes/assumptions/13.md), the hazard
of a user-bank LDM notes/assumptions/15.md. -/
def Obligations.SpecialRegisterBlockTransfers : Prop :=
  ∀ (i : Instr) (s : State) (f : BlockForm) (rows : List SfrRow), condPassed f.cond s.cpsr = true →
    sBitAllowed i s = true → f.broken s = none → rows.length = (regsOf f.list).length →
    (∀ k, (h : k < rows.length) → inSfrWindow (f.addr s k) = true ∧
      sfrRow s.bigend .word (alignDown .word (f.addr s k)) = some rows[k]) →
    (∀ names, ldmAny i s = some (f, names) → f.list.getLsbD 15 = false → s.pc ≠ 0xFFFFFFFC#32 →
      (∀ k, (h : k < rows.length) → rows[k].readable = true ∧
        s.abortsAccess .read (f.addr s k) .word s.privileged = false) →
      ∃ t, exec i s = .next t ∧ t.pc = s.pc + 4#32 ∧ t.cpsr = s.cpsr ∧
        (∀ k, (h : k < (regsOf f.list).length) →
          Holds t (names (regsOf f.list)[k]) (Config.draw 32 (s.draws + k))) ∧
        (f.w = true → f.rn ∉ regsOf f.list → Holds t (bank s.cpsr.m f.rn) (f.newBase s)) ∧
        t.sfrLog = s.sfrLog ++ rows.map (fun r => .read r.name .word) ∧
        Unchanged { s with sfrLog := t.sfrLog } t
          ((regsOf f.list).map names ++ if f.w then [bank s.cpsr.m f.rn] else []) ∧
        ((∀ c p u w rn list, i ≠ .ldmUser c p u w rn list) → t.bankHazard = s.bankHazard) ∧
        ((∃ c p u w rn list, i = .ldmUser c p u w rn list) → t.bankHazard = s.spsr.isSome) ∧
        MemoryKept s t ∧ t.draws = s.draws + rows.length) ∧
    (∀ (p : PSR) (v : Word), f.list.getLsbD 15 = true →
      (ldmForm i = some f ∧ s.cpsr.t = false ∧ p = s.cpsr ∨
        i = .ldmRestore f.cond f.p f.u f.w f.rn f.list ∧ s.spsr = some p) →
      (∀ k, (h : k < rows.length) → rows[k].readable = true ∧
        s.abortsAccess .read (f.addr s k) .word s.privileged = false) →
      v = Config.draw 32 (s.draws + (rows.length - 1)) →
      if p.t = true ∨ wordAligned v = true then
        ∃ t, exec i s = .next t ∧ t.pc = (if p.t then v &&& 0xFFFFFFFE#32 else v) ∧ t.cpsr = p ∧
          (∀ k, (h : k + 1 < (regsOf f.list).length) →
            Holds t (bank s.cpsr.m (regsOf f.list)[k]) (Config.draw 32 (s.draws + k))) ∧
          (f.w = true → f.rn ∉ regsOf f.list → Holds t (bank s.cpsr.m f.rn) (f.newBase s)) ∧
          t.sfrLog = s.sfrLog ++ rows.map (fun r => .read r.name .word) ∧
          Unchanged { s with sfrLog := t.sfrLog } t
            ((regsOf f.list).map (bank s.cpsr.m) ++ if f.w then [bank s.cpsr.m f.rn] else []) ∧
          t.bankHazard = s.bankHazard ∧ MemoryKept s t ∧ t.draws = s.draws + rows.length
      else exec i s = .refused .unalignedPc) ∧
    (∀ value, stmAny i s = some (f, value) → s.pc ≠ 0xFFFFFFFC#32 →
      (∀ k, (h : k < rows.length) → rows[k].writable = true ∧
        s.abortsAccess .write (f.addr s k) .word s.privileged = false ∧
        overlapsPrefetch s.pc (alignDown .word (f.addr s k)) 4 = false) →
      ∃ t, exec i s = .next t ∧ Advanced s t ∧ t.cpsr = s.cpsr ∧
        (f.w = true → Holds t (bank s.cpsr.m f.rn) (f.newBase s)) ∧
        (∃ events : List SfrEvent, t.sfrLog = s.sfrLog ++ events ∧ events.length = rows.length ∧
          ∀ k, (h : k < (regsOf f.list).length) → (h' : k < rows.length) →
            events[k]? = some (.write rows[k].name .word
              (f.stored s k (regsOf f.list)[k] (value (regsOf f.list)[k])))) ∧
        Unchanged { s with sfrLog := t.sfrLog } t (if f.w then [bank s.cpsr.m f.rn] else []) ∧
        MemoryKept s t ∧ t.draws = s.draws)

/-- Accesses to memory that is not RAM (20_memory.md R126): one that touches an unmapped byte faults, naming the first such
address; a store that touches ROM which refuses writes is refused; a store to ROM which ignores writes completes and
changes nothing. So do the instructions. A load, an LDM at any word once the earlier ones are loaded, and a swap fault at an
unmapped byte; a store and an STM (at any word once the earlier ones have aborted or been stored) fault there too, and they and
a swap are refused at refusing ROM; on ignoring ROM a store and an STM complete with their write-back, a swap with the value
read, and no memory changes. That ROM comes in two kinds is notes/assumptions/28.md, the fault notes/assumptions/5.md, the
order of the tests of a store notes/assumptions/14.md, the addresses of decrementing block transfers and the absence of
rotation in them notes/assumptions/21.md. -/
def Obligations.AccessesOutsideRam : Prop :=
  (∀ (z : Size) (a v : Word) (priv : Bool) (s : State), inSfrWindow a = false →
    s.abortsAccess .read a z priv = false → s.abortsAccess .write a z priv = false →
    overlapsPrefetch s.pc (alignDown z a) z.bytes = false →
    (∀ x, touches z a x → kindAt s.map x = none → (∀ y, touches z a y → y < x → kindAt s.map y ≠ none) →
      loadUnit z a priv s = .fault (.unmappedAddress x) ∧ storeUnit z a v priv s = .fault (.unmappedAddress x)) ∧
    ((∀ x, touches z a x → kindAt s.map x ≠ none) → (∃ x, touches z a x ∧ kindAt s.map x = some .romRefusing) →
      storeUnit z a v priv s = .refused .romWrite) ∧
    ((∀ x, touches z a x → kindAt s.map x = some .romIgnoring) → storeUnit z a v priv s = .done () s)) ∧
  (∀ (i : Instr) (s : State) (f : TransferForm), condPassed f.cond s.cpsr = true → f.broken = none →
    inSfrWindow f.x.addr = false → (f.kind.size = .half → f.x.addr.getLsbD 0 = false) →
    (loadForm i s = some f → s.abortsAccess .read f.x.addr f.kind.size f.priv = false →
      ∀ x, touches f.kind.size f.x.addr x → kindAt s.map x = none →
        (∀ y, touches f.kind.size f.x.addr y → y < x → kindAt s.map y ≠ none) →
        exec i s = .fault (.unmappedAddress x)) ∧
    (storeForm i s = some f → s.abortsAccess .write f.x.addr f.kind.size f.priv = false →
      overlapsPrefetch s.pc (alignDown f.kind.size f.x.addr) f.kind.size.bytes = false →
      (f.kind.size = .word → s.refusesUnaligned f.x.addr = false) →
      (∀ x, touches f.kind.size f.x.addr x → kindAt s.map x = none →
        (∀ y, touches f.kind.size f.x.addr y → y < x → kindAt s.map y ≠ none) →
        exec i s = .fault (.unmappedAddress x)) ∧
      ((∀ x, touches f.kind.size f.x.addr x → kindAt s.map x ≠ none) →
        (∃ x, touches f.kind.size f.x.addr x ∧ kindAt s.map x = some .romRefusing) →
        exec i s = .refused .romWrite) ∧
      ((∀ x, touches f.kind.size f.x.addr x → kindAt s.map x = some .romIgnoring) → s.pc ≠ 0xFFFFFFFC#32 →
        ∃ t, exec i s = .next t ∧ Advanced s t ∧ MemoryKept s t ∧
          (∀ b, f.x.writeBack = some b → Holds t (bank s.cpsr.m f.rn) b) ∧ t.cpsr = s.cpsr ∧
          Unchanged s t (if f.x.writeBack.isSome then [bank s.cpsr.m f.rn] else []) ∧ t.draws = s.draws))) ∧
  (∀ (i : Instr) (s : State) (f : BlockForm) (k : Nat), condPassed f.cond s.cpsr = true → sBitAllowed i s = true →
    f.broken s = none → k < (regsOf f.list).length → inSfrWindow (f.addr s k) = false →
    (∀ names, ldmAny i s = some (f, names) →
      (∀ j, j < k → ∃ d t, loadUnit .word (f.addr s j) s.privileged s = .done d t) →
      s.abortsAccess .read (f.addr s k) .word s.privileged = false →
      ∀ x, touches .word (f.addr s k) x → kindAt s.map x = none →
        (∀ y, touches .word (f.addr s k) y → y < x → kindAt s.map y ≠ none) →
        exec i s = .fault (.unmappedAddress x)) ∧
    (∀ value, stmAny i s = some (f, value) →
      (∀ j, j < k → s.abortsAccess .write (f.addr s j) .word s.privileged = true ∨
        ∃ v t, storeUnit .word (f.addr s j) v s.privileged s = .done () t) →
      s.abortsAccess .write (f.addr s k) .word s.privileged = false →
      overlapsPrefetch s.pc (alignDown .word (f.addr s k)) 4 = false →
      (∀ x, touches .word (f.addr s k) x → kindAt s.map x = none →
        (∀ y, touches .word (f.addr s k) y → y < x → kindAt s.map y ≠ none) →
        exec i s = .fault (.unmappedAddress x)) ∧
      ((∀ x, touches .word (f.addr s k) x → kindAt s.map x ≠ none) →
        (∃ x, touches .word (f.addr s k) x ∧ kindAt s.map x = some .romRefusing) →
        exec i s = .refused .romWrite))) ∧
  (∀ (i : Instr) (s : State) (f : BlockForm) (value : Reg → Word), stmAny i s = some (f, value) →
    condPassed f.cond s.cpsr = true → sBitAllowed i s = true → f.broken s = none → s.pc ≠ 0xFFFFFFFC#32 →
    (∀ k, k < (regsOf f.list).length → s.CanWrite .word (f.addr s k) s.privileged ∧
      ∀ x, touches .word (f.addr s k) x → kindAt s.map x = some .romIgnoring) →
    ∃ t, exec i s = .next t ∧ Advanced s t ∧ MemoryKept s t ∧
      (f.w = true → Holds t (bank s.cpsr.m f.rn) (f.newBase s)) ∧ t.cpsr = s.cpsr ∧
      Unchanged s t (if f.w then [bank s.cpsr.m f.rn] else []) ∧ t.draws = s.draws) ∧
  ∀ (c : Cond) (rn rd rm : Reg) (s : State) (byteForm : Bool) (z : Size) (k : LoadKind) (i : Instr) (a : Word),
    (z = if byteForm then .byte else .word) → (k = if byteForm then .byte else .word) →
    (i = if byteForm then .swpb c rn rd rm else .swp c rn rd rm) → a = s.readReg 8#32 rn →
    condPassed c s.cpsr = true → rn ≠ 15#4 → rd ≠ 15#4 → rm ≠ 15#4 →
    (byteForm = false → s.refusesUnaligned a = false) → inSfrWindow a = false →
    s.abortsAccess .read a z s.privileged = false →
    (∀ x, touches z a x → kindAt s.map x = none → (∀ y, touches z a y → y < x → kindAt s.map y ≠ none) →
      exec i s = .fault (.unmappedAddress x)) ∧
    (s.abortsAccess .write a z s.privileged = false → overlapsPrefetch s.pc (alignDown z a) z.bytes = false →
      ((∀ x, touches z a x → kindAt s.map x ≠ none) → (∃ x, touches z a x ∧ kindAt s.map x = some .romRefusing) →
        exec i s = .refused .romWrite) ∧
      ((∀ x, touches z a x → kindAt s.map x = some .romIgnoring) → s.pc ≠ 0xFFFFFFFC#32 →
        ∃ t, exec i s = .next t ∧ Advanced s t ∧
          Holds t (bank s.cpsr.m rd) (k.value a (s.readMem z (alignDown z a))) ∧ MemoryKept s t ∧ t.cpsr = s.cpsr ∧
          Unchanged s t [bank s.cpsr.m rd] ∧ t.draws = s.draws))

/-- A store whose bytes overlap the two prefetched words is refused unless it aborts (20_memory.md R141, decision D9,
notes/assumptions/13.md), for every single transfer that stores, for STM and user-bank STM at any word once the earlier words
have aborted or been stored, and for SWP and SWPB once their read is done. That the window is judged at the aligned address,
after the abort and before the special registers and the map, is the model's choice (notes/assumptions/14.md). -/
def Obligations.StoreIntoPrefetchedWordsIsRefused : Prop :=
  ∀ (i : Instr) (s : State),
    (∀ f : TransferForm, storeForm i s = some f → condPassed f.cond s.cpsr = true →
      f.broken = none → s.abortsAccess .write f.x.addr f.kind.size f.priv = false →
      (∃ d, d < f.kind.size.bytes ∧ (alignDown f.kind.size f.x.addr + BitVec.ofNat 32 d - (s.pc + 4#32)).toNat < 8) →
      (f.kind.size = .half → f.x.addr.getLsbD 0 = false) →
      (f.kind.size = .word → s.refusesUnaligned f.x.addr = false) →
      exec i s = .refused .prefetchStore) ∧
    (∀ (f : BlockForm) (value : Reg → Word) (k : Nat), stmAny i s = some (f, value) →
      condPassed f.cond s.cpsr = true → sBitAllowed i s = true → f.broken s = none → k < (regsOf f.list).length →
      (∀ j, j < k → s.abortsAccess .write (f.addr s j) .word s.privileged = true ∨
        ∃ v t, storeUnit .word (f.addr s j) v s.privileged s = .done () t) →
      s.abortsAccess .write (f.addr s k) .word s.privileged = false →
      (∃ d, d < 4 ∧ (alignDown .word (f.addr s k) + BitVec.ofNat 32 d - (s.pc + 4#32)).toNat < 8) →
      exec i s = .refused .prefetchStore) ∧
    (∀ (c : Cond) (rn rd rm : Reg) (byteForm : Bool) (z : Size) (a : Word),
      (z = if byteForm then .byte else .word) →
      (i = if byteForm then .swpb c rn rd rm else .swp c rn rd rm) → a = s.readReg 8#32 rn →
      condPassed c s.cpsr = true → rn ≠ 15#4 → rd ≠ 15#4 → rm ≠ 15#4 →
      (byteForm = false → s.refusesUnaligned a = false) →
      (∃ d s1, loadUnit z a s.privileged s = .done d s1) → s.abortsAccess .write a z s.privileged = false →
      (∃ d, d < z.bytes ∧ (alignDown z a + BitVec.ofNat 32 d - (s.pc + 4#32)).toNat < 8) →
      exec i s = .refused .prefetchStore)

/-- After a user-bank LDM, a step whose instruction, its condition passing, reads a register banked in the current mode is refused;
one that reads none runs, and the hazard is gone after it unless it is again a user-bank LDM (70_reset_and_hazards.md
R621). Which registers count as read, that a failed condition reads nothing, and that System mode has no hazard are deduced
(notes/assumptions/15.md); OnlyListedRegistersAreRead ties the list to what `exec` depends on. -/
def Obligations.BankedReadAfterUserBankLoad : Prop :=
  ∀ (i : Instr) (s : State), s.bankHazard = true →
    (condPassed i.cond s.cpsr = true → (∃ r ∈ i.reads, bank s.cpsr.m r ≠ userBank r) →
      runInstr i s = .refused .bankedRead) ∧
    ((condPassed i.cond s.cpsr = false ∨ ∀ r ∈ i.reads, bank s.cpsr.m r = userBank r) →
      runInstr i s = exec i { s with bankHazard := false }) ∧
    (∀ t, runInstr i s = .next t → (∀ c p u w rn list, i ≠ .ldmUser c p u w rn list) → t.bankHazard = false)

/-- What an instruction does depends on no general register but those of `Instr.reads` in the current mode's bank and, for the
user-bank STM, the User registers it stores: with another value in any other register, it answers the same fault, the same
refusal, or the same next state, in which that register holds the other value unless the instruction overwrote it. This is
what the hazard's list of reads claims (70_reset_and_hazards.md R621, notes/assumptions/15.md). -/
def Obligations.OnlyListedRegistersAreRead : Prop :=
  ∀ (i : Instr) (s : State) (q : PhysReg) (v : Word),
    (∀ r ∈ i.reads, bank s.cpsr.m r ≠ some q) →
    (∀ c p u w rn list, i = .stmUser c p u w rn list → ∀ r ∈ regsOf list, userBank r ≠ some q) →
    (∀ x, exec i s = .fault x → exec i (s.setGpr q v) = .fault x) ∧
    (∀ x, exec i s = .refused x → exec i (s.setGpr q v) = .refused x) ∧
    (∀ t, exec i s = .next t →
      exec i (s.setGpr q v) = .next t ∨ exec i (s.setGpr q v) = .next (t.setGpr q v))

/-- What User mode cannot do (60_exceptions.md R541, R543): an instruction that completes in User mode leaves the mode, I, F, every
SPSR and every banked register as they were, and T too unless it is BX; or it takes an exception, the CPSR of before being
saved in the SPSR of the mode entered. -/
def Obligations.UserModeIsConfined : Prop :=
  ∀ (i : Instr) (s t : State), s.cpsr.m = 0b10000#5 → exec i s = .next t →
    (t.cpsr.m = s.cpsr.m ∧ t.cpsr.i = s.cpsr.i ∧ t.cpsr.f = s.cpsr.f ∧
      (t.cpsr.t = s.cpsr.t ∨ ∃ c rn, i = .bx c rn) ∧
      t.spsrFiq = s.spsrFiq ∧ t.spsrIrq = s.spsrIrq ∧ t.spsrSvc = s.spsrSvc ∧ t.spsrAbt = s.spsrAbt ∧
      t.spsrUnd = s.spsrUnd ∧ (∀ q, q ∉ userRegs → t.gpr q = s.gpr q)) ∨
    (∃ k : ExceptionKind, (k = .undefined ∨ k = .swi ∨ k = .dataAbort) ∧ t.pc = k.vector ∧
      t.cpsr = k.enteredCpsr s.cpsr ∧ t.spsrOf k.mode = some s.cpsr ∧
      (∀ m, m ≠ k.mode → t.spsrOf m = s.spsrOf m) ∧
      (∀ q, q ∉ userRegs → q ≠ k.mode.linkReg → t.gpr q = s.gpr q))

/-- No instruction changes the pins, the memory map, the abort oracle, MISALIGNED_WORD or the inputs (70_reset_and_hazards.md R601,
20_memory.md R102); events are only ever added to the special-register log (20_memory.md R134); and an instruction that
is no store, no STM and no swap leaves memory as it was. -/
def Obligations.NoInstructionChangesTheSurroundings : Prop :=
  ∀ (i : Instr) (s t : State), exec i s = .next t →
    (t.bigend = s.bigend ∧ t.om = s.om ∧ t.map = s.map ∧ t.misaligned = s.misaligned ∧ t.aborts = s.aborts ∧
      t.inputs = s.inputs ∧ ∃ events, t.sfrLog = s.sfrLog ++ events) ∧
    (storeForm i s = none → stmForm i = none → (∀ c p u w rn list, i ≠ .stmUser c p u w rn list) →
      (∀ c rn rd rm, i ≠ .swp c rn rd rm) → (∀ c rn rd rm, i ≠ .swpb c rn rd rm) → t.mem = s.mem)
end

