-- ==== Sys2Proof/Laws/State.lean ====
section
/-! SUPPORT. One lemma per field of the state and per update of it. -/

namespace Sys2Proof.Machine

variable (s : State)

/-! ### setGpr -/

@[simp] theorem State.setGpr_regs (p : PhysReg) (v : Word) :
    (s.setGpr p v).regs = s.regs.set p.idx v := rfl
@[simp] theorem State.setGpr_pc (p : PhysReg) (v : Word) : (s.setGpr p v).pc = s.pc := rfl
@[simp] theorem State.setGpr_cpsr (p : PhysReg) (v : Word) : (s.setGpr p v).cpsr = s.cpsr := rfl
@[simp] theorem State.setGpr_spsrFiq (p : PhysReg) (v : Word) : (s.setGpr p v).spsrFiq = s.spsrFiq := rfl
@[simp] theorem State.setGpr_spsrIrq (p : PhysReg) (v : Word) : (s.setGpr p v).spsrIrq = s.spsrIrq := rfl
@[simp] theorem State.setGpr_spsrSvc (p : PhysReg) (v : Word) : (s.setGpr p v).spsrSvc = s.spsrSvc := rfl
@[simp] theorem State.setGpr_spsrAbt (p : PhysReg) (v : Word) : (s.setGpr p v).spsrAbt = s.spsrAbt := rfl
@[simp] theorem State.setGpr_spsrUnd (p : PhysReg) (v : Word) : (s.setGpr p v).spsrUnd = s.spsrUnd := rfl
@[simp] theorem State.setGpr_mem (p : PhysReg) (v : Word) : (s.setGpr p v).mem = s.mem := rfl
@[simp] theorem State.setGpr_bigend (p : PhysReg) (v : Word) : (s.setGpr p v).bigend = s.bigend := rfl
@[simp] theorem State.setGpr_om (p : PhysReg) (v : Word) : (s.setGpr p v).om = s.om := rfl
@[simp] theorem State.setGpr_map (p : PhysReg) (v : Word) : (s.setGpr p v).map = s.map := rfl
@[simp] theorem State.setGpr_misaligned (p : PhysReg) (v : Word) : (s.setGpr p v).misaligned = s.misaligned := rfl
@[simp] theorem State.setGpr_aborts (p : PhysReg) (v : Word) : (s.setGpr p v).aborts = s.aborts := rfl
@[simp] theorem State.setGpr_inputs (p : PhysReg) (v : Word) : (s.setGpr p v).inputs = s.inputs := rfl
@[simp] theorem State.setGpr_sfrLog (p : PhysReg) (v : Word) : (s.setGpr p v).sfrLog = s.sfrLog := rfl
@[simp] theorem State.setGpr_bankHazard (p : PhysReg) (v : Word) : (s.setGpr p v).bankHazard = s.bankHazard := rfl
@[simp] theorem State.setGpr_draws (p : PhysReg) (v : Word) : (s.setGpr p v).draws = s.draws := rfl

/-! ### setReg -/

@[simp] theorem State.setReg_pc (i : Reg) (v : Word) : (s.setReg i v).pc = s.pc := by
  unfold State.setReg; split <;> rfl
@[simp] theorem State.setReg_cpsr (i : Reg) (v : Word) : (s.setReg i v).cpsr = s.cpsr := by
  unfold State.setReg; split <;> rfl
@[simp] theorem State.setReg_spsrFiq (i : Reg) (v : Word) : (s.setReg i v).spsrFiq = s.spsrFiq := by
  unfold State.setReg; split <;> rfl
@[simp] theorem State.setReg_spsrIrq (i : Reg) (v : Word) : (s.setReg i v).spsrIrq = s.spsrIrq := by
  unfold State.setReg; split <;> rfl
@[simp] theorem State.setReg_spsrSvc (i : Reg) (v : Word) : (s.setReg i v).spsrSvc = s.spsrSvc := by
  unfold State.setReg; split <;> rfl
@[simp] theorem State.setReg_spsrAbt (i : Reg) (v : Word) : (s.setReg i v).spsrAbt = s.spsrAbt := by
  unfold State.setReg; split <;> rfl
@[simp] theorem State.setReg_spsrUnd (i : Reg) (v : Word) : (s.setReg i v).spsrUnd = s.spsrUnd := by
  unfold State.setReg; split <;> rfl
@[simp] theorem State.setReg_mem (i : Reg) (v : Word) : (s.setReg i v).mem = s.mem := by
  unfold State.setReg; split <;> rfl
@[simp] theorem State.setReg_bigend (i : Reg) (v : Word) : (s.setReg i v).bigend = s.bigend := by
  unfold State.setReg; split <;> rfl
@[simp] theorem State.setReg_om (i : Reg) (v : Word) : (s.setReg i v).om = s.om := by
  unfold State.setReg; split <;> rfl
@[simp] theorem State.setReg_map (i : Reg) (v : Word) : (s.setReg i v).map = s.map := by
  unfold State.setReg; split <;> rfl
@[simp] theorem State.setReg_misaligned (i : Reg) (v : Word) : (s.setReg i v).misaligned = s.misaligned := by
  unfold State.setReg; split <;> rfl
@[simp] theorem State.setReg_aborts (i : Reg) (v : Word) : (s.setReg i v).aborts = s.aborts := by
  unfold State.setReg; split <;> rfl
@[simp] theorem State.setReg_inputs (i : Reg) (v : Word) : (s.setReg i v).inputs = s.inputs := by
  unfold State.setReg; split <;> rfl
@[simp] theorem State.setReg_sfrLog (i : Reg) (v : Word) : (s.setReg i v).sfrLog = s.sfrLog := by
  unfold State.setReg; split <;> rfl
@[simp] theorem State.setReg_bankHazard (i : Reg) (v : Word) : (s.setReg i v).bankHazard = s.bankHazard := by
  unfold State.setReg; split <;> rfl
@[simp] theorem State.setReg_draws (i : Reg) (v : Word) : (s.setReg i v).draws = s.draws := by
  unfold State.setReg; split <;> rfl

/-! ### setUserReg -/

@[simp] theorem State.setUserReg_pc (i : Reg) (v : Word) : (s.setUserReg i v).pc = s.pc := by
  unfold State.setUserReg; split <;> rfl
@[simp] theorem State.setUserReg_cpsr (i : Reg) (v : Word) : (s.setUserReg i v).cpsr = s.cpsr := by
  unfold State.setUserReg; split <;> rfl
@[simp] theorem State.setUserReg_spsrFiq (i : Reg) (v : Word) : (s.setUserReg i v).spsrFiq = s.spsrFiq := by
  unfold State.setUserReg; split <;> rfl
@[simp] theorem State.setUserReg_spsrIrq (i : Reg) (v : Word) : (s.setUserReg i v).spsrIrq = s.spsrIrq := by
  unfold State.setUserReg; split <;> rfl
@[simp] theorem State.setUserReg_spsrSvc (i : Reg) (v : Word) : (s.setUserReg i v).spsrSvc = s.spsrSvc := by
  unfold State.setUserReg; split <;> rfl
@[simp] theorem State.setUserReg_spsrAbt (i : Reg) (v : Word) : (s.setUserReg i v).spsrAbt = s.spsrAbt := by
  unfold State.setUserReg; split <;> rfl
@[simp] theorem State.setUserReg_spsrUnd (i : Reg) (v : Word) : (s.setUserReg i v).spsrUnd = s.spsrUnd := by
  unfold State.setUserReg; split <;> rfl
@[simp] theorem State.setUserReg_mem (i : Reg) (v : Word) : (s.setUserReg i v).mem = s.mem := by
  unfold State.setUserReg; split <;> rfl
@[simp] theorem State.setUserReg_bigend (i : Reg) (v : Word) : (s.setUserReg i v).bigend = s.bigend := by
  unfold State.setUserReg; split <;> rfl
@[simp] theorem State.setUserReg_om (i : Reg) (v : Word) : (s.setUserReg i v).om = s.om := by
  unfold State.setUserReg; split <;> rfl
@[simp] theorem State.setUserReg_map (i : Reg) (v : Word) : (s.setUserReg i v).map = s.map := by
  unfold State.setUserReg; split <;> rfl
@[simp] theorem State.setUserReg_misaligned (i : Reg) (v : Word) : (s.setUserReg i v).misaligned = s.misaligned := by
  unfold State.setUserReg; split <;> rfl
@[simp] theorem State.setUserReg_aborts (i : Reg) (v : Word) : (s.setUserReg i v).aborts = s.aborts := by
  unfold State.setUserReg; split <;> rfl
@[simp] theorem State.setUserReg_inputs (i : Reg) (v : Word) : (s.setUserReg i v).inputs = s.inputs := by
  unfold State.setUserReg; split <;> rfl
@[simp] theorem State.setUserReg_sfrLog (i : Reg) (v : Word) : (s.setUserReg i v).sfrLog = s.sfrLog := by
  unfold State.setUserReg; split <;> rfl
@[simp] theorem State.setUserReg_bankHazard (i : Reg) (v : Word) : (s.setUserReg i v).bankHazard = s.bankHazard := by
  unfold State.setUserReg; split <;> rfl
@[simp] theorem State.setUserReg_draws (i : Reg) (v : Word) : (s.setUserReg i v).draws = s.draws := by
  unfold State.setUserReg; split <;> rfl

/-! ### setSpsrOf -/

@[simp] theorem State.setSpsrOf_regs (m : Mode) (p : PSR) : (s.setSpsrOf m p).regs = s.regs := by
  cases m <;> rfl
@[simp] theorem State.setSpsrOf_pc (m : Mode) (p : PSR) : (s.setSpsrOf m p).pc = s.pc := by
  cases m <;> rfl
@[simp] theorem State.setSpsrOf_cpsr (m : Mode) (p : PSR) : (s.setSpsrOf m p).cpsr = s.cpsr := by
  cases m <;> rfl
@[simp] theorem State.setSpsrOf_mem (m : Mode) (p : PSR) : (s.setSpsrOf m p).mem = s.mem := by
  cases m <;> rfl
@[simp] theorem State.setSpsrOf_bigend (m : Mode) (p : PSR) : (s.setSpsrOf m p).bigend = s.bigend := by
  cases m <;> rfl
@[simp] theorem State.setSpsrOf_om (m : Mode) (p : PSR) : (s.setSpsrOf m p).om = s.om := by
  cases m <;> rfl
@[simp] theorem State.setSpsrOf_map (m : Mode) (p : PSR) : (s.setSpsrOf m p).map = s.map := by
  cases m <;> rfl
@[simp] theorem State.setSpsrOf_misaligned (m : Mode) (p : PSR) : (s.setSpsrOf m p).misaligned = s.misaligned := by
  cases m <;> rfl
@[simp] theorem State.setSpsrOf_aborts (m : Mode) (p : PSR) : (s.setSpsrOf m p).aborts = s.aborts := by
  cases m <;> rfl
@[simp] theorem State.setSpsrOf_inputs (m : Mode) (p : PSR) : (s.setSpsrOf m p).inputs = s.inputs := by
  cases m <;> rfl
@[simp] theorem State.setSpsrOf_sfrLog (m : Mode) (p : PSR) : (s.setSpsrOf m p).sfrLog = s.sfrLog := by
  cases m <;> rfl
@[simp] theorem State.setSpsrOf_bankHazard (m : Mode) (p : PSR) : (s.setSpsrOf m p).bankHazard = s.bankHazard := by
  cases m <;> rfl
@[simp] theorem State.setSpsrOf_draws (m : Mode) (p : PSR) : (s.setSpsrOf m p).draws = s.draws := by
  cases m <;> rfl

/-! ### setNZCV -/

@[simp] theorem State.setNZCV_regs (n z c v : Bool) : (s.setNZCV n z c v).regs = s.regs := rfl
@[simp] theorem State.setNZCV_pc (n z c v : Bool) : (s.setNZCV n z c v).pc = s.pc := rfl
@[simp] theorem State.setNZCV_cpsr (n z c v : Bool) :
    (s.setNZCV n z c v).cpsr = { s.cpsr with n := n, z := z, c := c, v := v } := rfl
@[simp] theorem State.setNZCV_spsrFiq (n z c v : Bool) : (s.setNZCV n z c v).spsrFiq = s.spsrFiq := rfl
@[simp] theorem State.setNZCV_spsrIrq (n z c v : Bool) : (s.setNZCV n z c v).spsrIrq = s.spsrIrq := rfl
@[simp] theorem State.setNZCV_spsrSvc (n z c v : Bool) : (s.setNZCV n z c v).spsrSvc = s.spsrSvc := rfl
@[simp] theorem State.setNZCV_spsrAbt (n z c v : Bool) : (s.setNZCV n z c v).spsrAbt = s.spsrAbt := rfl
@[simp] theorem State.setNZCV_spsrUnd (n z c v : Bool) : (s.setNZCV n z c v).spsrUnd = s.spsrUnd := rfl
@[simp] theorem State.setNZCV_mem (n z c v : Bool) : (s.setNZCV n z c v).mem = s.mem := rfl
@[simp] theorem State.setNZCV_bigend (n z c v : Bool) : (s.setNZCV n z c v).bigend = s.bigend := rfl
@[simp] theorem State.setNZCV_om (n z c v : Bool) : (s.setNZCV n z c v).om = s.om := rfl
@[simp] theorem State.setNZCV_map (n z c v : Bool) : (s.setNZCV n z c v).map = s.map := rfl
@[simp] theorem State.setNZCV_misaligned (n z c v : Bool) : (s.setNZCV n z c v).misaligned = s.misaligned := rfl
@[simp] theorem State.setNZCV_aborts (n z c v : Bool) : (s.setNZCV n z c v).aborts = s.aborts := rfl
@[simp] theorem State.setNZCV_inputs (n z c v : Bool) : (s.setNZCV n z c v).inputs = s.inputs := rfl
@[simp] theorem State.setNZCV_sfrLog (n z c v : Bool) : (s.setNZCV n z c v).sfrLog = s.sfrLog := rfl
@[simp] theorem State.setNZCV_bankHazard (n z c v : Bool) : (s.setNZCV n z c v).bankHazard = s.bankHazard := rfl
@[simp] theorem State.setNZCV_draws (n z c v : Bool) : (s.setNZCV n z c v).draws = s.draws := rfl

/-! ### setAluFlags -/

@[simp] theorem State.setAluFlags_regs (r : AluResult) : (s.setAluFlags r).regs = s.regs := rfl
@[simp] theorem State.setAluFlags_pc (r : AluResult) : (s.setAluFlags r).pc = s.pc := rfl
@[simp] theorem State.setAluFlags_cpsr (r : AluResult) :
    (s.setAluFlags r).cpsr = { s.cpsr with n := r.n, z := r.z, c := r.c, v := r.v } := rfl
@[simp] theorem State.setAluFlags_spsrFiq (r : AluResult) : (s.setAluFlags r).spsrFiq = s.spsrFiq := rfl
@[simp] theorem State.setAluFlags_spsrIrq (r : AluResult) : (s.setAluFlags r).spsrIrq = s.spsrIrq := rfl
@[simp] theorem State.setAluFlags_spsrSvc (r : AluResult) : (s.setAluFlags r).spsrSvc = s.spsrSvc := rfl
@[simp] theorem State.setAluFlags_spsrAbt (r : AluResult) : (s.setAluFlags r).spsrAbt = s.spsrAbt := rfl
@[simp] theorem State.setAluFlags_spsrUnd (r : AluResult) : (s.setAluFlags r).spsrUnd = s.spsrUnd := rfl
@[simp] theorem State.setAluFlags_mem (r : AluResult) : (s.setAluFlags r).mem = s.mem := rfl
@[simp] theorem State.setAluFlags_bigend (r : AluResult) : (s.setAluFlags r).bigend = s.bigend := rfl
@[simp] theorem State.setAluFlags_om (r : AluResult) : (s.setAluFlags r).om = s.om := rfl
@[simp] theorem State.setAluFlags_map (r : AluResult) : (s.setAluFlags r).map = s.map := rfl
@[simp] theorem State.setAluFlags_misaligned (r : AluResult) : (s.setAluFlags r).misaligned = s.misaligned := rfl
@[simp] theorem State.setAluFlags_aborts (r : AluResult) : (s.setAluFlags r).aborts = s.aborts := rfl
@[simp] theorem State.setAluFlags_inputs (r : AluResult) : (s.setAluFlags r).inputs = s.inputs := rfl
@[simp] theorem State.setAluFlags_sfrLog (r : AluResult) : (s.setAluFlags r).sfrLog = s.sfrLog := rfl
@[simp] theorem State.setAluFlags_bankHazard (r : AluResult) : (s.setAluFlags r).bankHazard = s.bankHazard := rfl
@[simp] theorem State.setAluFlags_draws (r : AluResult) : (s.setAluFlags r).draws = s.draws := rfl

/-! ### drawn -/

@[simp] theorem State.drawn_regs : s.drawn.regs = s.regs := rfl
@[simp] theorem State.drawn_pc : s.drawn.pc = s.pc := rfl
@[simp] theorem State.drawn_cpsr : s.drawn.cpsr = s.cpsr := rfl
@[simp] theorem State.drawn_spsrFiq : s.drawn.spsrFiq = s.spsrFiq := rfl
@[simp] theorem State.drawn_spsrIrq : s.drawn.spsrIrq = s.spsrIrq := rfl
@[simp] theorem State.drawn_spsrSvc : s.drawn.spsrSvc = s.spsrSvc := rfl
@[simp] theorem State.drawn_spsrAbt : s.drawn.spsrAbt = s.spsrAbt := rfl
@[simp] theorem State.drawn_spsrUnd : s.drawn.spsrUnd = s.spsrUnd := rfl
@[simp] theorem State.drawn_mem : s.drawn.mem = s.mem := rfl
@[simp] theorem State.drawn_bigend : s.drawn.bigend = s.bigend := rfl
@[simp] theorem State.drawn_om : s.drawn.om = s.om := rfl
@[simp] theorem State.drawn_map : s.drawn.map = s.map := rfl
@[simp] theorem State.drawn_misaligned : s.drawn.misaligned = s.misaligned := rfl
@[simp] theorem State.drawn_aborts : s.drawn.aborts = s.aborts := rfl
@[simp] theorem State.drawn_inputs : s.drawn.inputs = s.inputs := rfl
@[simp] theorem State.drawn_sfrLog : s.drawn.sfrLog = s.sfrLog := rfl
@[simp] theorem State.drawn_bankHazard : s.drawn.bankHazard = s.bankHazard := rfl
@[simp] theorem State.drawn_draws :
    s.drawn.draws = s.draws + 1 := rfl

/-! ### setMulFlags -/

@[simp] theorem State.setMulFlags_regs (r : Word) : (s.setMulFlags r).regs = s.regs := rfl
@[simp] theorem State.setMulFlags_pc (r : Word) : (s.setMulFlags r).pc = s.pc := rfl
@[simp] theorem State.setMulFlags_cpsr (r : Word) :
    (s.setMulFlags r).cpsr = { s.cpsr with n := r.msb, z := r == 0#32, c := (s.nextDraw 1).getLsbD 0 } := rfl
@[simp] theorem State.setMulFlags_spsrFiq (r : Word) : (s.setMulFlags r).spsrFiq = s.spsrFiq := rfl
@[simp] theorem State.setMulFlags_spsrIrq (r : Word) : (s.setMulFlags r).spsrIrq = s.spsrIrq := rfl
@[simp] theorem State.setMulFlags_spsrSvc (r : Word) : (s.setMulFlags r).spsrSvc = s.spsrSvc := rfl
@[simp] theorem State.setMulFlags_spsrAbt (r : Word) : (s.setMulFlags r).spsrAbt = s.spsrAbt := rfl
@[simp] theorem State.setMulFlags_spsrUnd (r : Word) : (s.setMulFlags r).spsrUnd = s.spsrUnd := rfl
@[simp] theorem State.setMulFlags_mem (r : Word) : (s.setMulFlags r).mem = s.mem := rfl
@[simp] theorem State.setMulFlags_bigend (r : Word) : (s.setMulFlags r).bigend = s.bigend := rfl
@[simp] theorem State.setMulFlags_om (r : Word) : (s.setMulFlags r).om = s.om := rfl
@[simp] theorem State.setMulFlags_map (r : Word) : (s.setMulFlags r).map = s.map := rfl
@[simp] theorem State.setMulFlags_misaligned (r : Word) : (s.setMulFlags r).misaligned = s.misaligned := rfl
@[simp] theorem State.setMulFlags_aborts (r : Word) : (s.setMulFlags r).aborts = s.aborts := rfl
@[simp] theorem State.setMulFlags_inputs (r : Word) : (s.setMulFlags r).inputs = s.inputs := rfl
@[simp] theorem State.setMulFlags_sfrLog (r : Word) : (s.setMulFlags r).sfrLog = s.sfrLog := rfl
@[simp] theorem State.setMulFlags_bankHazard (r : Word) : (s.setMulFlags r).bankHazard = s.bankHazard := rfl
@[simp] theorem State.setMulFlags_draws (r : Word) :
    (s.setMulFlags r).draws = s.draws + 1 := rfl

/-! ### setLongFlags -/

@[simp] theorem State.setLongFlags_regs (r : BitVec 64) : (s.setLongFlags r).regs = s.regs := rfl
@[simp] theorem State.setLongFlags_pc (r : BitVec 64) : (s.setLongFlags r).pc = s.pc := rfl
@[simp] theorem State.setLongFlags_cpsr (r : BitVec 64) :
    (s.setLongFlags r).cpsr = { s.cpsr with n := r.msb, z := r == 0#64, c := (s.nextDraw 1).getLsbD 0, v := (s.drawn.nextDraw 1).getLsbD 0 } := rfl
@[simp] theorem State.setLongFlags_spsrFiq (r : BitVec 64) : (s.setLongFlags r).spsrFiq = s.spsrFiq := rfl
@[simp] theorem State.setLongFlags_spsrIrq (r : BitVec 64) : (s.setLongFlags r).spsrIrq = s.spsrIrq := rfl
@[simp] theorem State.setLongFlags_spsrSvc (r : BitVec 64) : (s.setLongFlags r).spsrSvc = s.spsrSvc := rfl
@[simp] theorem State.setLongFlags_spsrAbt (r : BitVec 64) : (s.setLongFlags r).spsrAbt = s.spsrAbt := rfl
@[simp] theorem State.setLongFlags_spsrUnd (r : BitVec 64) : (s.setLongFlags r).spsrUnd = s.spsrUnd := rfl
@[simp] theorem State.setLongFlags_mem (r : BitVec 64) : (s.setLongFlags r).mem = s.mem := rfl
@[simp] theorem State.setLongFlags_bigend (r : BitVec 64) : (s.setLongFlags r).bigend = s.bigend := rfl
@[simp] theorem State.setLongFlags_om (r : BitVec 64) : (s.setLongFlags r).om = s.om := rfl
@[simp] theorem State.setLongFlags_map (r : BitVec 64) : (s.setLongFlags r).map = s.map := rfl
@[simp] theorem State.setLongFlags_misaligned (r : BitVec 64) : (s.setLongFlags r).misaligned = s.misaligned := rfl
@[simp] theorem State.setLongFlags_aborts (r : BitVec 64) : (s.setLongFlags r).aborts = s.aborts := rfl
@[simp] theorem State.setLongFlags_inputs (r : BitVec 64) : (s.setLongFlags r).inputs = s.inputs := rfl
@[simp] theorem State.setLongFlags_sfrLog (r : BitVec 64) : (s.setLongFlags r).sfrLog = s.sfrLog := rfl
@[simp] theorem State.setLongFlags_bankHazard (r : BitVec 64) : (s.setLongFlags r).bankHazard = s.bankHazard := rfl
@[simp] theorem State.setLongFlags_draws (r : BitVec 64) :
    (s.setLongFlags r).draws = s.draws + 2 := rfl

/-! ### writeBase -/

@[simp] theorem State.writeBase_pc (rn : Reg) (x : Indexed) : (s.writeBase rn x).pc = s.pc := by
  unfold State.writeBase; split <;> simp
@[simp] theorem State.writeBase_cpsr (rn : Reg) (x : Indexed) : (s.writeBase rn x).cpsr = s.cpsr := by
  unfold State.writeBase; split <;> simp
@[simp] theorem State.writeBase_spsrFiq (rn : Reg) (x : Indexed) : (s.writeBase rn x).spsrFiq = s.spsrFiq := by
  unfold State.writeBase; split <;> simp
@[simp] theorem State.writeBase_spsrIrq (rn : Reg) (x : Indexed) : (s.writeBase rn x).spsrIrq = s.spsrIrq := by
  unfold State.writeBase; split <;> simp
@[simp] theorem State.writeBase_spsrSvc (rn : Reg) (x : Indexed) : (s.writeBase rn x).spsrSvc = s.spsrSvc := by
  unfold State.writeBase; split <;> simp
@[simp] theorem State.writeBase_spsrAbt (rn : Reg) (x : Indexed) : (s.writeBase rn x).spsrAbt = s.spsrAbt := by
  unfold State.writeBase; split <;> simp
@[simp] theorem State.writeBase_spsrUnd (rn : Reg) (x : Indexed) : (s.writeBase rn x).spsrUnd = s.spsrUnd := by
  unfold State.writeBase; split <;> simp
@[simp] theorem State.writeBase_mem (rn : Reg) (x : Indexed) : (s.writeBase rn x).mem = s.mem := by
  unfold State.writeBase; split <;> simp
@[simp] theorem State.writeBase_bigend (rn : Reg) (x : Indexed) : (s.writeBase rn x).bigend = s.bigend := by
  unfold State.writeBase; split <;> simp
@[simp] theorem State.writeBase_om (rn : Reg) (x : Indexed) : (s.writeBase rn x).om = s.om := by
  unfold State.writeBase; split <;> simp
@[simp] theorem State.writeBase_map (rn : Reg) (x : Indexed) : (s.writeBase rn x).map = s.map := by
  unfold State.writeBase; split <;> simp
@[simp] theorem State.writeBase_misaligned (rn : Reg) (x : Indexed) : (s.writeBase rn x).misaligned = s.misaligned := by
  unfold State.writeBase; split <;> simp
@[simp] theorem State.writeBase_aborts (rn : Reg) (x : Indexed) : (s.writeBase rn x).aborts = s.aborts := by
  unfold State.writeBase; split <;> simp
@[simp] theorem State.writeBase_inputs (rn : Reg) (x : Indexed) : (s.writeBase rn x).inputs = s.inputs := by
  unfold State.writeBase; split <;> simp
@[simp] theorem State.writeBase_sfrLog (rn : Reg) (x : Indexed) : (s.writeBase rn x).sfrLog = s.sfrLog := by
  unfold State.writeBase; split <;> simp
@[simp] theorem State.writeBase_bankHazard (rn : Reg) (x : Indexed) : (s.writeBase rn x).bankHazard = s.bankHazard := by
  unfold State.writeBase; split <;> simp
@[simp] theorem State.writeBase_draws (rn : Reg) (x : Indexed) : (s.writeBase rn x).draws = s.draws := by
  unfold State.writeBase; split <;> simp

/-! ### withNewBase -/

@[simp] theorem State.withNewBase_pc (w : Bool) (rn : Reg) (b : Word) : (s.withNewBase w rn b).pc = s.pc := by
  unfold State.withNewBase; split <;> simp
@[simp] theorem State.withNewBase_cpsr (w : Bool) (rn : Reg) (b : Word) : (s.withNewBase w rn b).cpsr = s.cpsr := by
  unfold State.withNewBase; split <;> simp
@[simp] theorem State.withNewBase_spsrFiq (w : Bool) (rn : Reg) (b : Word) : (s.withNewBase w rn b).spsrFiq = s.spsrFiq := by
  unfold State.withNewBase; split <;> simp
@[simp] theorem State.withNewBase_spsrIrq (w : Bool) (rn : Reg) (b : Word) : (s.withNewBase w rn b).spsrIrq = s.spsrIrq := by
  unfold State.withNewBase; split <;> simp
@[simp] theorem State.withNewBase_spsrSvc (w : Bool) (rn : Reg) (b : Word) : (s.withNewBase w rn b).spsrSvc = s.spsrSvc := by
  unfold State.withNewBase; split <;> simp
@[simp] theorem State.withNewBase_spsrAbt (w : Bool) (rn : Reg) (b : Word) : (s.withNewBase w rn b).spsrAbt = s.spsrAbt := by
  unfold State.withNewBase; split <;> simp
@[simp] theorem State.withNewBase_spsrUnd (w : Bool) (rn : Reg) (b : Word) : (s.withNewBase w rn b).spsrUnd = s.spsrUnd := by
  unfold State.withNewBase; split <;> simp
@[simp] theorem State.withNewBase_mem (w : Bool) (rn : Reg) (b : Word) : (s.withNewBase w rn b).mem = s.mem := by
  unfold State.withNewBase; split <;> simp
@[simp] theorem State.withNewBase_bigend (w : Bool) (rn : Reg) (b : Word) : (s.withNewBase w rn b).bigend = s.bigend := by
  unfold State.withNewBase; split <;> simp
@[simp] theorem State.withNewBase_om (w : Bool) (rn : Reg) (b : Word) : (s.withNewBase w rn b).om = s.om := by
  unfold State.withNewBase; split <;> simp
@[simp] theorem State.withNewBase_map (w : Bool) (rn : Reg) (b : Word) : (s.withNewBase w rn b).map = s.map := by
  unfold State.withNewBase; split <;> simp
@[simp] theorem State.withNewBase_misaligned (w : Bool) (rn : Reg) (b : Word) : (s.withNewBase w rn b).misaligned = s.misaligned := by
  unfold State.withNewBase; split <;> simp
@[simp] theorem State.withNewBase_aborts (w : Bool) (rn : Reg) (b : Word) : (s.withNewBase w rn b).aborts = s.aborts := by
  unfold State.withNewBase; split <;> simp
@[simp] theorem State.withNewBase_inputs (w : Bool) (rn : Reg) (b : Word) : (s.withNewBase w rn b).inputs = s.inputs := by
  unfold State.withNewBase; split <;> simp
@[simp] theorem State.withNewBase_sfrLog (w : Bool) (rn : Reg) (b : Word) : (s.withNewBase w rn b).sfrLog = s.sfrLog := by
  unfold State.withNewBase; split <;> simp
@[simp] theorem State.withNewBase_bankHazard (w : Bool) (rn : Reg) (b : Word) : (s.withNewBase w rn b).bankHazard = s.bankHazard := by
  unfold State.withNewBase; split <;> simp
@[simp] theorem State.withNewBase_draws (w : Bool) (rn : Reg) (b : Word) : (s.withNewBase w rn b).draws = s.draws := by
  unfold State.withNewBase; split <;> simp

/-! ### writeMem -/

@[simp] theorem State.writeMem_regs (z : Size) (a v : Word) : (s.writeMem z a v).regs = s.regs := rfl
@[simp] theorem State.writeMem_pc (z : Size) (a v : Word) : (s.writeMem z a v).pc = s.pc := rfl
@[simp] theorem State.writeMem_cpsr (z : Size) (a v : Word) : (s.writeMem z a v).cpsr = s.cpsr := rfl
@[simp] theorem State.writeMem_spsrFiq (z : Size) (a v : Word) : (s.writeMem z a v).spsrFiq = s.spsrFiq := rfl
@[simp] theorem State.writeMem_spsrIrq (z : Size) (a v : Word) : (s.writeMem z a v).spsrIrq = s.spsrIrq := rfl
@[simp] theorem State.writeMem_spsrSvc (z : Size) (a v : Word) : (s.writeMem z a v).spsrSvc = s.spsrSvc := rfl
@[simp] theorem State.writeMem_spsrAbt (z : Size) (a v : Word) : (s.writeMem z a v).spsrAbt = s.spsrAbt := rfl
@[simp] theorem State.writeMem_spsrUnd (z : Size) (a v : Word) : (s.writeMem z a v).spsrUnd = s.spsrUnd := rfl
@[simp] theorem State.writeMem_mem (z : Size) (a v : Word) :
    (s.writeMem z a v).mem = s.mem.writeBytes s.isRam a.toNat (disassemble s.bigend z.bytes v) := rfl
@[simp] theorem State.writeMem_bigend (z : Size) (a v : Word) : (s.writeMem z a v).bigend = s.bigend := rfl
@[simp] theorem State.writeMem_om (z : Size) (a v : Word) : (s.writeMem z a v).om = s.om := rfl
@[simp] theorem State.writeMem_map (z : Size) (a v : Word) : (s.writeMem z a v).map = s.map := rfl
@[simp] theorem State.writeMem_misaligned (z : Size) (a v : Word) : (s.writeMem z a v).misaligned = s.misaligned := rfl
@[simp] theorem State.writeMem_aborts (z : Size) (a v : Word) : (s.writeMem z a v).aborts = s.aborts := rfl
@[simp] theorem State.writeMem_inputs (z : Size) (a v : Word) : (s.writeMem z a v).inputs = s.inputs := rfl
@[simp] theorem State.writeMem_sfrLog (z : Size) (a v : Word) : (s.writeMem z a v).sfrLog = s.sfrLog := rfl
@[simp] theorem State.writeMem_bankHazard (z : Size) (a v : Word) : (s.writeMem z a v).bankHazard = s.bankHazard := rfl
@[simp] theorem State.writeMem_draws (z : Size) (a v : Word) : (s.writeMem z a v).draws = s.draws := rfl

/-! ### nextBoundary -/

@[simp] theorem State.nextBoundary_regs : s.nextBoundary.regs = s.regs := rfl
@[simp] theorem State.nextBoundary_pc : s.nextBoundary.pc = s.pc := rfl
@[simp] theorem State.nextBoundary_cpsr : s.nextBoundary.cpsr = s.cpsr := rfl
@[simp] theorem State.nextBoundary_spsrFiq : s.nextBoundary.spsrFiq = s.spsrFiq := rfl
@[simp] theorem State.nextBoundary_spsrIrq : s.nextBoundary.spsrIrq = s.spsrIrq := rfl
@[simp] theorem State.nextBoundary_spsrSvc : s.nextBoundary.spsrSvc = s.spsrSvc := rfl
@[simp] theorem State.nextBoundary_spsrAbt : s.nextBoundary.spsrAbt = s.spsrAbt := rfl
@[simp] theorem State.nextBoundary_spsrUnd : s.nextBoundary.spsrUnd = s.spsrUnd := rfl
@[simp] theorem State.nextBoundary_mem : s.nextBoundary.mem = s.mem := rfl
@[simp] theorem State.nextBoundary_bigend : s.nextBoundary.bigend = s.bigend := rfl
@[simp] theorem State.nextBoundary_om : s.nextBoundary.om = s.om := rfl
@[simp] theorem State.nextBoundary_map : s.nextBoundary.map = s.map := rfl
@[simp] theorem State.nextBoundary_misaligned : s.nextBoundary.misaligned = s.misaligned := rfl
@[simp] theorem State.nextBoundary_aborts : s.nextBoundary.aborts = s.aborts := rfl
@[simp] theorem State.nextBoundary_inputs :
    s.nextBoundary.inputs = s.inputs.tail := rfl
@[simp] theorem State.nextBoundary_sfrLog : s.nextBoundary.sfrLog = s.sfrLog := rfl
@[simp] theorem State.nextBoundary_bankHazard : s.nextBoundary.bankHazard = s.bankHazard := rfl
@[simp] theorem State.nextBoundary_draws : s.nextBoundary.draws = s.draws := rfl

/-! ### enterException -/

@[simp] theorem enterException_pc (k : ExceptionKind) (l : Word) : (enterException k l s).pc = k.vector := rfl
@[simp] theorem enterException_cpsr (k : ExceptionKind) (l : Word) : (enterException k l s).cpsr = k.enteredCpsr s.cpsr := rfl
@[simp] theorem enterException_mem (k : ExceptionKind) (l : Word) : (enterException k l s).mem = s.mem := by
  simp [enterException]
@[simp] theorem enterException_bigend (k : ExceptionKind) (l : Word) : (enterException k l s).bigend = s.bigend := by
  simp [enterException]
@[simp] theorem enterException_om (k : ExceptionKind) (l : Word) : (enterException k l s).om = s.om := by
  simp [enterException]
@[simp] theorem enterException_map (k : ExceptionKind) (l : Word) : (enterException k l s).map = s.map := by
  simp [enterException]
@[simp] theorem enterException_misaligned (k : ExceptionKind) (l : Word) : (enterException k l s).misaligned = s.misaligned := by
  simp [enterException]
@[simp] theorem enterException_aborts (k : ExceptionKind) (l : Word) : (enterException k l s).aborts = s.aborts := by
  simp [enterException]
@[simp] theorem enterException_inputs (k : ExceptionKind) (l : Word) : (enterException k l s).inputs = s.inputs := by
  simp [enterException]
@[simp] theorem enterException_sfrLog (k : ExceptionKind) (l : Word) : (enterException k l s).sfrLog = s.sfrLog := by
  simp [enterException]
@[simp] theorem enterException_bankHazard (k : ExceptionKind) (l : Word) : (enterException k l s).bankHazard = false := rfl
@[simp] theorem enterException_draws (k : ExceptionKind) (l : Word) : (enterException k l s).draws = s.draws := by
  simp [enterException]
@[simp] theorem enterException_regs (k : ExceptionKind) (l : Word) :
    (enterException k l s).regs = s.regs.set k.mode.linkReg.idx l := by
  simp [enterException]

end Sys2Proof.Machine
end

