-- ==== Sys2Proof/Laws/Memory.lean ====
section
/-! SUPPORT. Memory: what a read gives after a write, that every operation keeps the canonical form, and that a value
stored and read back is the value. -/

namespace Sys2Proof.Machine

/-! ### One byte -/

theorem Memory.read_filter_same (m : Memory) (a : Nat) :
    Memory.read (m.filter (fun c => c.1 != a)) a = unlistedByte := by
  induction m with
  | nil => rfl
  | cons c rest ih =>
    obtain ⟨b, v⟩ := c
    by_cases h : b = a
    · simpa [List.filter_cons, h] using ih
    · simpa [List.filter_cons, h, Memory.read, Ne.symm h] using ih

theorem Memory.read_filter_other (m : Memory) {a x : Nat} (h : x ≠ a) :
    Memory.read (m.filter (fun c => c.1 != a)) x = Memory.read m x := by
  induction m with
  | nil => rfl
  | cons c rest ih =>
    obtain ⟨b, v⟩ := c
    by_cases hb : b = a
    · subst hb; simpa [List.filter_cons, Memory.read, h] using ih
    · by_cases hx : x = b
      · simp [hb, Memory.read, hx]
      · simpa [List.filter_cons, hb, Memory.read, hx] using ih

theorem Memory.read_insert_same (m : Memory) (a : Nat) (v : Byte) (h : ∀ c ∈ m, c.1 ≠ a) :
    Memory.read (Memory.insert m a v) a = v := by
  induction m with
  | nil => simp [Memory.insert, Memory.read]
  | cons c rest ih =>
    obtain ⟨b, w⟩ := c
    have hb : b ≠ a := h (b, w) (by simp)
    unfold Memory.insert
    split
    · simp [Memory.read]
    · simpa [Memory.read, Ne.symm hb] using ih (fun c hc => h c (by simp [hc]))

theorem Memory.read_insert_other (m : Memory) {a x : Nat} (v : Byte) (h : x ≠ a) :
    Memory.read (Memory.insert m a v) x = Memory.read m x := by
  induction m with
  | nil => simp [Memory.insert, Memory.read, h]
  | cons c rest ih =>
    obtain ⟨b, w⟩ := c
    unfold Memory.insert
    split
    · simp [Memory.read, h]
    · by_cases hx : x = b
      · simp [Memory.read, hx]
      · simpa [Memory.read, hx] using ih

/-- A byte just written reads as written (20_memory.md R103). -/
@[simp] theorem Memory.read_write_same (m : Memory) (a : Nat) (v : Byte) : (Memory.write m a v).read a = v := by
  unfold Memory.write
  by_cases h : v = unlistedByte
  · simp [h, Memory.read_filter_same]
  · simp only [h, if_false]
    exact Memory.read_insert_same _ a v (by simp)

/-- A write leaves every other byte alone. -/
theorem Memory.read_write_other (m : Memory) {a x : Nat} (v : Byte) (h : x ≠ a) :
    (Memory.write m a v).read x = m.read x := by
  unfold Memory.write
  by_cases hv : v = unlistedByte
  · simp [hv, Memory.read_filter_other m h]
  · simp only [hv, if_false]
    rw [Memory.read_insert_other _ _ h, Memory.read_filter_other m h]

/-! ### The canonical form -/

theorem Memory.wfFrom_mono {lo lo' : Nat} {m : Memory} (h : lo' ≤ lo) (hm : Memory.wfFrom lo m = true) :
    Memory.wfFrom lo' m = true := by
  cases m with
  | nil => rfl
  | cons c rest =>
    obtain ⟨a, v⟩ := c
    simp only [Memory.wfFrom, Bool.and_eq_true, decide_eq_true_eq] at hm ⊢
    exact ⟨⟨⟨by omega, hm.1.1.2⟩, hm.1.2⟩, hm.2⟩

theorem Memory.wfFrom_filter {lo : Nat} {m : Memory} (p : Host.Cell → Bool) (hm : Memory.wfFrom lo m = true) :
    Memory.wfFrom lo (m.filter p) = true := by
  induction m generalizing lo with
  | nil => rfl
  | cons c rest ih =>
    obtain ⟨a, v⟩ := c
    simp only [Memory.wfFrom, Bool.and_eq_true, decide_eq_true_eq] at hm
    rw [List.filter_cons]
    split
    · simp only [Memory.wfFrom, Bool.and_eq_true, decide_eq_true_eq]
      exact ⟨hm.1, ih hm.2⟩
    · exact Memory.wfFrom_mono (by omega) (ih hm.2)

theorem Memory.wfFrom_insert {lo a : Nat} {v : Byte} {m : Memory} (hlo : lo ≤ a) (ha : a < 2 ^ 32)
    (hv : v ≠ unlistedByte) (hn : ∀ c ∈ m, c.1 ≠ a) (hm : Memory.wfFrom lo m = true) :
    Memory.wfFrom lo (Memory.insert m a v) = true := by
  induction m generalizing lo with
  | nil => simpa [Memory.insert, Memory.wfFrom, hv] using And.intro hlo ha
  | cons c rest ih =>
    obtain ⟨b, w⟩ := c
    have hb : b ≠ a := hn (b, w) (by simp)
    simp only [Memory.wfFrom, Bool.and_eq_true, decide_eq_true_eq] at hm
    unfold Memory.insert
    split
    · next hab =>
      simp only [Memory.wfFrom, Bool.and_eq_true, decide_eq_true_eq, bne_iff_ne]
      exact ⟨⟨⟨hlo, ha⟩, hv⟩, ⟨⟨by omega, hm.1.1.2⟩, by simpa using hm.1.2⟩, hm.2⟩
    · next hab =>
      simp only [Memory.wfFrom, Bool.and_eq_true, decide_eq_true_eq]
      exact ⟨hm.1, ih (by omega) (fun c hc => hn c (by simp [hc])) hm.2⟩

/-- A write within the address space keeps the canonical form. -/
theorem Memory.wf_write {m : Memory} {a : Nat} (v : Byte) (ha : a < 2 ^ 32) (hm : m.wf = true) :
    (Memory.write m a v).wf = true := by
  unfold Memory.wf Memory.write at *
  by_cases hv : v = unlistedByte
  · simpa [hv] using Memory.wfFrom_filter _ hm
  · simp only [hv, if_false]
    exact Memory.wfFrom_insert (Nat.zero_le _) ha hv (by simp) (Memory.wfFrom_filter _ hm)

/-- A run of byte writes within the address space keeps the canonical form. -/
theorem Memory.wf_writeBytes (ok : Nat → Bool) (bytes : List Byte) {m : Memory} {a : Nat}
    (ha : a + bytes.length ≤ 2 ^ 32) (hm : m.wf = true) : (Memory.writeBytes ok m a bytes).wf = true := by
  induction bytes generalizing m a with
  | nil => exact hm
  | cons b rest ih =>
    unfold Memory.writeBytes
    simp only [List.length_cons] at ha
    apply ih (by omega)
    split
    · exact Memory.wf_write b (by omega) hm
    · exact hm

theorem reset_mem_wf : State.reset.mem.wf = true := rfl

/-! ### Runs of bytes -/

/-- A run of byte writes leaves every byte outside it alone. -/
theorem Memory.read_writeBytes_outside (ok : Nat → Bool) (bytes : List Byte) (m : Memory) {a x : Nat}
    (h : x < a ∨ a + bytes.length ≤ x) : (Memory.writeBytes ok m a bytes).read x = m.read x := by
  induction bytes generalizing m a with
  | nil => rfl
  | cons b rest ih =>
    unfold Memory.writeBytes
    simp only [List.length_cons] at h
    rw [ih _ (by omega)]
    split
    · exact Memory.read_write_other m b (by omega)
    · rfl

theorem Memory.readBytes_congr {m m' : Memory} (n : Nat) {a : Nat}
    (h : ∀ x, a ≤ x → x < a + n → m'.read x = m.read x) : m'.readBytes a n = m.readBytes a n := by
  induction n generalizing a with
  | zero => rfl
  | succ n ih =>
    simp only [Memory.readBytes]
    rw [h a (by omega) (by omega), ih (fun x h1 h2 => h x (by omega) (by omega))]

/-- Bytes written where every one is writable read back as written. -/
theorem Memory.readBytes_writeBytes_same (ok : Nat → Bool) (bytes : List Byte) (m : Memory) {a : Nat}
    (h : ∀ x, a ≤ x → x < a + bytes.length → ok x = true) :
    (Memory.writeBytes ok m a bytes).readBytes a bytes.length = bytes := by
  induction bytes generalizing m a with
  | nil => rfl
  | cons b rest ih =>
    simp only [List.length_cons] at h
    simp only [Memory.writeBytes, h a (by omega) (by omega), if_true, List.length_cons, Memory.readBytes]
    rw [Memory.read_writeBytes_outside _ _ _ (by omega), Memory.read_write_same,
      ih _ (fun x h1 h2 => h x (by omega) (by omega))]

/-! ### Byte order -/

@[simp] theorem disassembleLittle_length (n : Nat) (v : Word) : (disassembleLittle n v).length = n := by
  induction n generalizing v with
  | zero => rfl
  | succ n ih => simp [disassembleLittle, ih]

@[simp] theorem disassemble_length (e : Bool) (n : Nat) (v : Word) : (disassemble e n v).length = n := by
  cases e <;> simp [disassemble]

theorem assembleLittle_disassembleLittle_four (v : Word) : assembleLittle (disassembleLittle 4 v) = v := by
  simp only [disassembleLittle, assembleLittle]
  apply BitVec.eq_of_getLsbD_eq
  intro i hi
  simp only [BitVec.getLsbD_or, BitVec.getLsbD_shiftLeft, BitVec.getLsbD_setWidth, BitVec.getLsbD_ushiftRight]
  by_cases h1 : i < 8
  · simp [h1, hi]
  · by_cases h2 : i < 16
    · have : i - 8 < 8 := by omega
      simp [h1, hi, this, show i - 8 < 32 by omega, show 8 + (i - 8) = i by omega]
    · by_cases h3 : i < 24
      · have e : ¬ i - 8 < 8 := by omega
        have : i - 8 - 8 < 8 := by omega
        simp [h1, hi, e, this, show i - 8 < 32 by omega, show i - 8 - 8 < 32 by omega,
          show 8 + (8 + (i - 8 - 8)) = i by omega]
      · have e : ¬ i - 8 < 8 := by omega
        have e2 : ¬ i - 8 - 8 < 8 := by omega
        have : i - 8 - 8 - 8 < 8 := by omega
        simp [h1, hi, e, e2, this, show i - 8 < 32 by omega, show i - 8 - 8 < 32 by omega,
          show i - 8 - 8 - 8 < 32 by omega, show 8 + (8 + (8 + (i - 8 - 8 - 8))) = i by omega]

/-- A word laid out in bytes and read back is the word, in either byte order (20_memory.md R103). -/
@[simp] theorem assemble_disassemble_word (e : Bool) (v : Word) : assemble e (disassemble e 4 v) = v := by
  cases e <;> simp [assemble, disassemble, assembleLittle_disassembleLittle_four]

/-- A byte laid out and read back is its low eight bits. -/
@[simp] theorem assemble_disassemble_byte (e : Bool) (v : Word) :
    assemble e (disassemble e 1 v) = (v.setWidth 8).setWidth 32 := by
  cases e <;> simp [assemble, disassemble, disassembleLittle, assembleLittle]

/-- A halfword laid out and read back is its low sixteen bits. -/
@[simp] theorem assemble_disassemble_half (e : Bool) (v : Word) :
    assemble e (disassemble e 2 v) = (v.setWidth 16).setWidth 32 := by
  have key : assembleLittle (disassembleLittle 2 v) = (v.setWidth 16).setWidth 32 := by
    simp only [disassembleLittle, assembleLittle]
    apply BitVec.eq_of_getLsbD_eq
    intro i hi
    simp only [BitVec.getLsbD_or, BitVec.getLsbD_shiftLeft, BitVec.getLsbD_setWidth, BitVec.getLsbD_ushiftRight]
    by_cases h1 : i < 8
    · simp [h1, hi, show i < 16 by omega]
    · by_cases h2 : i < 16
      · have : i - 8 < 8 := by omega
        simp [h1, h2, hi, this, show i - 8 < 32 by omega, show 8 + (i - 8) = i by omega]
      · have e : ¬ i - 8 < 8 := by omega
        simp [h1, h2, e]
  cases e <;> simp [assemble, disassemble, key]

/-! ### Memory of the state -/

/-- Aligned addresses leave room for their bytes below 2^32. -/
theorem alignDown_bytes_le (z : Size) (a : Word) : (alignDown z a).toNat + z.bytes ≤ 2 ^ 32 := by
  have key : ∀ (k : Nat) (b : Word), k ≤ 2 → (∀ i, i < k → b.getLsbD i = false) → b.toNat + 2 ^ k ≤ 2 ^ 32 := by
    intro k b hk hb
    have h0 : b.toNat % 2 ^ k = 0 := by
      apply Nat.eq_of_testBit_eq
      intro i
      rw [Nat.testBit_mod_two_pow]
      by_cases hi : i < k
      · have := hb i hi
        simp only [BitVec.getLsbD] at this
        simp [hi, this]
      · simp [hi]
    have := b.isLt
    interval_cases k <;> omega
  cases z with
  | byte => have := a.isLt; simp only [alignDown, Size.bytes]; omega
  | half =>
    have := key 1 (a &&& 0xFFFFFFFE#32) (by omega) (by
      intro i hi; interval_cases i; simp)
    simpa [alignDown, Size.bytes] using this
  | word =>
    have := key 2 (a &&& 0xFFFFFFFC#32) (by omega) (by
      intro i hi; interval_cases i <;> simp)
    simpa [alignDown, Size.bytes] using this

/-- A store leaves every byte it does not touch alone. -/
theorem State.writeMem_read_outside (s : State) (z : Size) (a v : Word) {x : Nat}
    (h : x < a.toNat ∨ a.toNat + z.bytes ≤ x) : (s.writeMem z a v).mem.read x = s.mem.read x := by
  simp only [State.writeMem_mem]
  exact Memory.read_writeBytes_outside _ _ _ (by simpa using h)

/-- A store at an aligned address keeps the canonical form. -/
theorem State.writeMem_wf {s : State} (z : Size) (a v : Word) (h : s.mem.wf = true) :
    (s.writeMem z (alignDown z a) v).mem.wf = true := by
  simp only [State.writeMem_mem]
  exact Memory.wf_writeBytes _ _ (by simpa using alignDown_bytes_le z a) h

/-- A word stored in RAM and read back is the word (20_memory.md R103). -/
theorem State.readMem_writeMem_word {s : State} {a v : Word}
    (h : ∀ x, a.toNat ≤ x → x < a.toNat + 4 → s.isRam x = true) :
    (s.writeMem .word a v).readMem .word a = v := by
  have key := Memory.readBytes_writeBytes_same s.isRam (disassemble s.bigend 4 v) s.mem (a := a.toNat)
    (by simpa using h)
  simp only [disassemble_length] at key
  simp only [State.readMem, State.writeMem_mem, State.writeMem_bigend, Size.bytes, key, assemble_disassemble_word]

end Sys2Proof.Machine
end

