-- ==== Sys2Proof/Laws/Registers.lean ====
section
/-! SUPPORT. Registers and banks: what a read gives after a write, and which register a number names. -/

namespace Sys2Proof.Machine

/-! ### Physical registers -/

theorem PhysReg.idx_injective {p q : PhysReg} (h : p.idx = q.idx) : p = q := by
  revert h; cases p <;> cases q <;> decide

theorem PhysReg.idx_val_ne {p q : PhysReg} (h : p ≠ q) : p.idx.val ≠ q.idx.val :=
  fun e => h (PhysReg.idx_injective (Fin.ext e))

@[simp] theorem State.gpr_setGpr_same (s : State) (p : PhysReg) (v : Word) : (s.setGpr p v).gpr p = v := by
  simp [State.gpr, State.setGpr]

theorem State.gpr_setGpr_other (s : State) {p q : PhysReg} (v : Word) (h : q ≠ p) :
    (s.setGpr p v).gpr q = s.gpr q := by
  simp only [State.gpr, State.setGpr, Fin.getElem_fin]
  exact Vector.getElem_set_ne _ _ (PhysReg.idx_val_ne (Ne.symm h))

theorem State.gpr_setGpr (s : State) (p q : PhysReg) (v : Word) :
    (s.setGpr p v).gpr q = if q = p then v else s.gpr q := by
  split
  · next h => subst h; simp
  · next h => exact State.gpr_setGpr_other s v h

/-- A register reads the same in states whose register files agree. -/
theorem State.gpr_congr {s t : State} (h : t.regs = s.regs) (q : PhysReg) : t.gpr q = s.gpr q := by
  simp [State.gpr, h]

@[simp] theorem State.gpr_pc (s : State) (x : Word) (q : PhysReg) : ({ s with pc := x } : State).gpr q = s.gpr q := rfl
@[simp] theorem State.gpr_cpsr (s : State) (x : PSR) (q : PhysReg) : ({ s with cpsr := x } : State).gpr q = s.gpr q :=
  rfl
@[simp] theorem State.gpr_bankHazard (s : State) (x : Bool) (q : PhysReg) :
    ({ s with bankHazard := x } : State).gpr q = s.gpr q := rfl
@[simp] theorem State.gpr_sfrLog (s : State) (x : List SfrEvent) (q : PhysReg) :
    ({ s with sfrLog := x } : State).gpr q = s.gpr q := rfl
@[simp] theorem State.gpr_drawn (s : State) (q : PhysReg) : s.drawn.gpr q = s.gpr q := rfl
@[simp] theorem State.gpr_setNZCV (s : State) (n z c v : Bool) (q : PhysReg) :
    (s.setNZCV n z c v).gpr q = s.gpr q := rfl
@[simp] theorem State.gpr_setAluFlags (s : State) (r : AluResult) (q : PhysReg) :
    (s.setAluFlags r).gpr q = s.gpr q := rfl
@[simp] theorem State.gpr_setMulFlags (s : State) (r : Word) (q : PhysReg) :
    (s.setMulFlags r).gpr q = s.gpr q := rfl
@[simp] theorem State.gpr_setLongFlags (s : State) (r : BitVec 64) (q : PhysReg) :
    (s.setLongFlags r).gpr q = s.gpr q := rfl
@[simp] theorem State.gpr_writeMem (s : State) (z : Size) (a v : Word) (q : PhysReg) :
    (s.writeMem z a v).gpr q = s.gpr q := rfl
@[simp] theorem State.gpr_nextBoundary (s : State) (q : PhysReg) : s.nextBoundary.gpr q = s.gpr q := rfl
@[simp] theorem State.gpr_setSpsrOf (s : State) (m : Mode) (x : PSR) (q : PhysReg) :
    (s.setSpsrOf m x).gpr q = s.gpr q := State.gpr_congr (by simp) q

/-! ### Banks -/

theorem bankRegs_length (m : Option Mode) : (bankRegs m).length = 15 := by
  cases m with
  | none => rfl
  | some m => cases m <;> rfl

theorem bankRegs_nodup (m : Option Mode) : (bankRegs m).Nodup := by
  cases m with
  | none => decide
  | some m => cases m <;> decide

@[simp] theorem bank_r15 (m : BitVec 5) : bank m 15#4 = none := by
  simp [bank, bankRegs_length]

theorem bank_eq_none {m : BitVec 5} {i : Reg} : bank m i = none ↔ i = 15#4 := by
  rw [bank, List.getElem?_eq_none_iff, bankRegs_length]
  constructor
  · intro h; apply BitVec.eq_of_toNat_eq; have := i.isLt; simp; omega
  · rintro rfl; decide

theorem bank_isSome (m : BitVec 5) {i : Reg} (h : i ≠ 15#4) : ∃ p, bank m i = some p := by
  cases e : bank m i with
  | none => exact absurd (bank_eq_none.mp e) h
  | some p => exact ⟨p, rfl⟩

/-- Two register numbers name one register only if they are equal. -/
theorem bank_injective {m : BitVec 5} {i j : Reg} {p : PhysReg} (hi : bank m i = some p) (hj : bank m j = some p) :
    i = j := by
  have h1 := (List.getElem?_eq_some_iff.mp hi)
  have h2 := (List.getElem?_eq_some_iff.mp hj)
  obtain ⟨b1, e1⟩ := h1
  obtain ⟨b2, e2⟩ := h2
  exact BitVec.eq_of_toNat_eq ((List.Nodup.getElem_inj_iff (bankRegs_nodup _)).mp (e1.trans e2.symm))

/-! ### Reads and writes by number -/

theorem State.setReg_eq {s : State} {i : Reg} {p : PhysReg} (h : bank s.cpsr.m i = some p) (v : Word) :
    s.setReg i v = s.setGpr p v := by
  simp [State.setReg, h]

@[simp] theorem State.setReg_r15 (s : State) (v : Word) : s.setReg 15#4 v = s := by
  simp [State.setReg]

theorem State.readReg_eq {s : State} {i : Reg} {p : PhysReg} (h : bank s.cpsr.m i = some p) (k : Word) :
    s.readReg k i = s.gpr p := by
  simp [State.readReg, h]

@[simp] theorem State.readReg_r15 (s : State) (k : Word) : s.readReg k 15#4 = s.pc + k := by
  simp [State.readReg]

/-- What a register read gives depends on the register file, the mode bits and the PC only. -/
theorem State.readReg_congr {s t : State} (hr : t.regs = s.regs) (hm : t.cpsr.m = s.cpsr.m) (hp : t.pc = s.pc)
    (k : Word) (i : Reg) : t.readReg k i = s.readReg k i := by
  simp only [State.readReg, hm, hp, State.gpr_congr hr]

/-- A register other than the one written reads as before. -/
theorem State.gpr_setReg_other (s : State) (i : Reg) (v : Word) {q : PhysReg} (h : some q ≠ bank s.cpsr.m i) :
    (s.setReg i v).gpr q = s.gpr q := by
  unfold State.setReg
  split
  · next p e => exact State.gpr_setGpr_other s v (fun hq => h (by rw [hq, e]))
  · rfl

/-- The written register holds the value. -/
theorem State.gpr_setReg_same {s : State} {i : Reg} {q : PhysReg} (h : bank s.cpsr.m i = some q) (v : Word) :
    (s.setReg i v).gpr q = v := by
  simp [State.setReg_eq h]

theorem State.readReg_setReg_same (s : State) {i : Reg} (hi : i ≠ 15#4) (k v : Word) :
    (s.setReg i v).readReg k i = v := by
  obtain ⟨p, hp⟩ := bank_isSome s.cpsr.m hi
  rw [State.readReg_eq (p := p) (by simpa using hp), State.gpr_setReg_same hp]

theorem State.readReg_setReg_other (s : State) {i j : Reg} (h : j ≠ i) (k v : Word) :
    (s.setReg i v).readReg k j = s.readReg k j := by
  cases hj : bank s.cpsr.m j with
  | none => rw [bank_eq_none.mp hj]; simp
  | some p =>
    rw [State.readReg_eq (p := p) (by simpa using hj), State.readReg_eq hj]
    exact State.gpr_setReg_other s i v (fun e => h (bank_injective hj e.symm))

/-- A register outside the User bank's register `i` reads as before. -/
theorem State.gpr_setUserReg_other (s : State) (i : Reg) (v : Word) {q : PhysReg} (h : some q ≠ userBank i) :
    (s.setUserReg i v).gpr q = s.gpr q := by
  unfold State.setUserReg
  split
  · next p e => exact State.gpr_setGpr_other s v (fun hq => h (by rw [hq, e]))
  · rfl

theorem State.gpr_setUserReg_same {s : State} {i : Reg} {q : PhysReg} (h : userBank i = some q) (v : Word) :
    (s.setUserReg i v).gpr q = v := by
  simp [State.setUserReg, h]

/-- Writing a base back changes the base register only. -/
theorem State.gpr_writeBase_other (s : State) (rn : Reg) (x : Indexed) {q : PhysReg}
    (h : some q ≠ bank s.cpsr.m rn) : (s.writeBase rn x).gpr q = s.gpr q := by
  unfold State.writeBase
  split
  · exact State.gpr_setReg_other s rn _ h
  · rfl

/-- Writing a block base back changes the base register only. -/
theorem State.gpr_withNewBase_other (s : State) (w : Bool) (rn : Reg) (b : Word) {q : PhysReg}
    (h : some q ≠ bank s.cpsr.m rn) : (s.withNewBase w rn b).gpr q = s.gpr q := by
  unfold State.withNewBase
  split
  · exact State.gpr_setReg_other s rn _ h
  · rfl

/-! ### Modes and saved status registers -/

@[simp] theorem Mode.ofBits_bits (m : Mode) : Mode.ofBits m.bits = some m := by
  cases m <;> decide

theorem Mode.bits_of_ofBits {b : BitVec 5} {m : Mode} (h : Mode.ofBits b = some m) : m.bits = b := by
  revert h; revert m; revert b; decide

@[simp] theorem State.mode_setReg (s : State) (i : Reg) (v : Word) : (s.setReg i v).mode = s.mode := by
  simp [State.mode]

theorem State.spsr_eq_none_of_user {s : State} (h : s.cpsr.m = 0b10000#5) : s.spsr = none := by
  simp [State.spsr, State.mode, h, show Mode.ofBits 0b10000#5 = some .usr from rfl, State.spsrOf]

/-- The SPSR of the current mode depends on the mode bits and the five SPSRs only. -/
theorem State.spsr_congr {s t : State} (hm : t.cpsr.m = s.cpsr.m) (h1 : t.spsrFiq = s.spsrFiq)
    (h2 : t.spsrIrq = s.spsrIrq) (h3 : t.spsrSvc = s.spsrSvc) (h4 : t.spsrAbt = s.spsrAbt)
    (h5 : t.spsrUnd = s.spsrUnd) : t.spsr = s.spsr := by
  unfold State.spsr State.mode
  rw [hm]
  cases Mode.ofBits s.cpsr.m with
  | none => rfl
  | some m => cases m <;> simp [State.spsrOf, h1, h2, h3, h4, h5]

@[simp] theorem State.spsr_setReg (s : State) (i : Reg) (v : Word) : (s.setReg i v).spsr = s.spsr :=
  State.spsr_congr (by simp) (by simp) (by simp) (by simp) (by simp) (by simp)

@[simp] theorem State.spsr_setUserReg (s : State) (i : Reg) (v : Word) : (s.setUserReg i v).spsr = s.spsr :=
  State.spsr_congr (by simp) (by simp) (by simp) (by simp) (by simp) (by simp)

/-- The two banks of a privileged mode differ only where the mode has registers of its own. -/
theorem isBanked_user (i : Reg) : isBanked 0b10000#5 i = false := by
  revert i; decide

theorem isBanked_system (i : Reg) : isBanked 0b11111#5 i = false := by
  revert i; decide

end Sys2Proof.Machine
end

