-- ==== Sys2Proof/Laws/Access.lean ====
section
/-! SUPPORT. What each data access can do, said once: it completes in ordinary memory, completes at a special register,
aborts, or stops. -/

namespace Sys2Proof.Machine

/-! ### Special registers -/

/-- A completed special-register read: a listed readable register, a free value, one event recorded. -/
theorem sfrRead_done {z : Size} {a d : Word} {s t : State} (h : sfrRead z a s = .done d t) :
    ∃ r, sfrRow s.bigend z a = some r ∧ r.readable = true ∧ d = (s.nextDraw (8 * z.bytes)).setWidth 32 ∧
      t = { s.drawn with sfrLog := s.sfrLog ++ [.read r.name z] } := by
  unfold sfrRead at h
  split at h
  · cases h
  · next r e =>
    split at h
    · next hr => cases h; exact ⟨r, e, hr, rfl, rfl⟩
    · cases h

/-- A completed special-register write: a listed writable register, one event recorded. -/
theorem sfrWrite_done {z : Size} {a v : Word} {u : Unit} {s t : State} (h : sfrWrite z a v s = .done u t) :
    ∃ r, sfrRow s.bigend z a = some r ∧ r.writable = true ∧
      t = { s with sfrLog := s.sfrLog ++ [.write r.name z v] } := by
  unfold sfrWrite at h
  split at h
  · cases h
  · next r e =>
    split at h
    · next hr => cases h; exact ⟨r, e, hr, rfl⟩
    · cases h

/-! ### One unit -/

/-- What a completed read gives: the bytes of ordinary memory with the state as it was, or a free value of a special
register. -/
theorem loadUnit_done {z : Size} {a d : Word} {priv : Bool} {s t : State} (h : loadUnit z a priv s = .done d t) :
    (s.CanRead z a priv ∧ d = s.readMem z (alignDown z a) ∧ t = s) ∨
    (inSfrWindow a = true ∧ ∃ r, sfrRow s.bigend z (alignDown z a) = some r ∧ r.readable = true ∧
      d = (s.nextDraw (8 * z.bytes)).setWidth 32 ∧
      t = { s.drawn with sfrLog := s.sfrLog ++ [.read r.name z] }) := by
  unfold loadUnit at h
  split at h
  · cases h
  · next ha =>
    split at h
    · next hw => exact .inr ⟨hw, sfrRead_done h⟩
    · next hw =>
      split at h
      · cases h
      · next hm => cases h; exact .inl ⟨⟨by simpa using ha, by simpa using hw, hm⟩, rfl, rfl⟩

/-- A read that can complete in ordinary memory does. -/
theorem loadUnit_of_canRead {z : Size} {a : Word} {priv : Bool} {s : State} (h : s.CanRead z a priv) :
    loadUnit z a priv s = .done (s.readMem z (alignDown z a)) s := by
  simp [loadUnit, h.not_aborted, h.not_sfr, h.mapped]

/-- A read of a listed readable special register that is not aborted completes. -/
theorem loadUnit_of_sfr {z : Size} {a : Word} {priv : Bool} {s : State} {r : SfrRow} (hw : inSfrWindow a = true)
    (ha : s.abortsAccess .read a z priv = false) (hr : sfrRow s.bigend z (alignDown z a) = some r)
    (hd : r.readable = true) :
    loadUnit z a priv s = .done ((s.nextDraw (8 * z.bytes)).setWidth 32)
      { s.drawn with sfrLog := s.sfrLog ++ [.read r.name z] } := by
  simp [loadUnit, sfrRead, hw, ha, hr, hd]

/-- A read aborts exactly when the memory system says so. -/
theorem loadUnit_aborted {z : Size} {a : Word} {priv : Bool} {s : State} :
    loadUnit z a priv s = .aborted ↔ s.abortsAccess .read a z priv = true := by
  unfold loadUnit sfrRead
  repeat' split
  all_goals simp_all

/-- What a completed write does: RAM bytes of ordinary memory change, or a special-register event is recorded. -/
theorem storeUnit_done {z : Size} {a v : Word} {priv : Bool} {u : Unit} {s t : State}
    (h : storeUnit z a v priv s = .done u t) :
    (s.CanWrite z a priv ∧ t = s.writeMem z (alignDown z a) v) ∨
    (inSfrWindow a = true ∧ ∃ r, sfrRow s.bigend z (alignDown z a) = some r ∧ r.writable = true ∧
      t = { s with sfrLog := s.sfrLog ++ [.write r.name z v] }) := by
  unfold storeUnit at h
  split at h
  · cases h
  · next ha =>
    split at h
    · cases h
    · next hp =>
      split at h
      · next hw => exact .inr ⟨hw, sfrWrite_done h⟩
      · next hw =>
        split at h
        · cases h
        · next hm =>
          split at h
          · cases h
          · next hr =>
            cases h
            exact .inl ⟨⟨by simpa using ha, by simpa using hp, by simpa using hw, hm, by simpa using hr⟩, rfl⟩

/-- A write that can complete in ordinary memory does. -/
theorem storeUnit_of_canWrite {z : Size} {a v : Word} {priv : Bool} {s : State} (h : s.CanWrite z a priv) :
    storeUnit z a v priv s = .done () (s.writeMem z (alignDown z a) v) := by
  simp [storeUnit, h.not_aborted, h.not_prefetched, h.not_sfr, h.mapped, h.accepted]

/-- A write to a listed writable special register, not aborted and outside the prefetched words, completes. -/
theorem storeUnit_of_sfr {z : Size} {a v : Word} {priv : Bool} {s : State} {r : SfrRow} (hw : inSfrWindow a = true)
    (ha : s.abortsAccess .write a z priv = false) (hp : overlapsPrefetch s.pc (alignDown z a) z.bytes = false)
    (hr : sfrRow s.bigend z (alignDown z a) = some r) (hd : r.writable = true) :
    storeUnit z a v priv s = .done () { s with sfrLog := s.sfrLog ++ [.write r.name z v] } := by
  simp [storeUnit, sfrWrite, hw, ha, hp, hr, hd]

/-- A write that is not aborted and overlaps the prefetched words is refused. -/
theorem storeUnit_prefetched {z : Size} {a v : Word} {priv : Bool} {s : State}
    (ha : s.abortsAccess .write a z priv = false) (hp : overlapsPrefetch s.pc (alignDown z a) z.bytes = true) :
    storeUnit z a v priv s = .refused .prefetchStore := by
  simp [storeUnit, ha, hp]

/-- A write aborts exactly when the memory system says so. -/
theorem storeUnit_aborted {z : Size} {a v : Word} {priv : Bool} {s : State} :
    storeUnit z a v priv s = .aborted ↔ s.abortsAccess .write a z priv = true := by
  unfold storeUnit sfrWrite
  repeat' split
  all_goals simp_all

/-! ### What no access changes -/

/-- What a data access never touches: registers, PC, status registers and the surroundings. -/
structure CoreKept (s t : State) : Prop where
  regs : t.regs = s.regs
  pc : t.pc = s.pc
  cpsr : t.cpsr = s.cpsr
  spsrFiq : t.spsrFiq = s.spsrFiq
  spsrIrq : t.spsrIrq = s.spsrIrq
  spsrSvc : t.spsrSvc = s.spsrSvc
  spsrAbt : t.spsrAbt = s.spsrAbt
  spsrUnd : t.spsrUnd = s.spsrUnd
  bigend : t.bigend = s.bigend
  om : t.om = s.om
  map : t.map = s.map
  misaligned : t.misaligned = s.misaligned
  aborts : t.aborts = s.aborts
  inputs : t.inputs = s.inputs
  bankHazard : t.bankHazard = s.bankHazard

theorem CoreKept.rfl {s : State} : CoreKept s s := by constructor <;> exact Eq.refl _

theorem CoreKept.trans {s t u : State} (h : CoreKept s t) (h' : CoreKept t u) : CoreKept s u := by
  constructor <;> first
    | exact h'.regs.trans h.regs | exact h'.pc.trans h.pc | exact h'.cpsr.trans h.cpsr
    | exact h'.spsrFiq.trans h.spsrFiq | exact h'.spsrIrq.trans h.spsrIrq | exact h'.spsrSvc.trans h.spsrSvc
    | exact h'.spsrAbt.trans h.spsrAbt | exact h'.spsrUnd.trans h.spsrUnd | exact h'.bigend.trans h.bigend
    | exact h'.om.trans h.om | exact h'.map.trans h.map | exact h'.misaligned.trans h.misaligned
    | exact h'.aborts.trans h.aborts | exact h'.inputs.trans h.inputs
    | exact h'.bankHazard.trans h.bankHazard

theorem loadUnit_core {z : Size} {a d : Word} {priv : Bool} {s t : State} (h : loadUnit z a priv s = .done d t) :
    CoreKept s t ∧ t.mem = s.mem := by
  obtain ⟨-, -, rfl⟩ | ⟨-, r, -, -, -, rfl⟩ := loadUnit_done h
  · exact ⟨.rfl, rfl⟩
  · exact ⟨by constructor <;> rfl, rfl⟩

theorem storeUnit_core {z : Size} {a v : Word} {priv : Bool} {u : Unit} {s t : State}
    (h : storeUnit z a v priv s = .done u t) : CoreKept s t := by
  obtain ⟨-, rfl⟩ | ⟨-, r, -, -, rfl⟩ := storeUnit_done h <;> constructor <;> rfl

/-- A completed write keeps the canonical form of memory. -/
theorem storeUnit_wf {z : Size} {a v : Word} {priv : Bool} {u : Unit} {s t : State}
    (h : storeUnit z a v priv s = .done u t) (hs : s.mem.wf = true) : t.mem.wf = true := by
  obtain ⟨-, rfl⟩ | ⟨-, r, -, -, rfl⟩ := storeUnit_done h
  · exact State.writeMem_wf z a v hs
  · exact hs

/-- A completed write leaves every byte that it does not touch alone. -/
theorem storeUnit_outside {z : Size} {a v : Word} {priv : Bool} {u : Unit} {s t : State}
    (h : storeUnit z a v priv s = .done u t) : MemoryKeptOutside s t z a := by
  intro x hx
  obtain ⟨-, rfl⟩ | ⟨-, r, -, -, rfl⟩ := storeUnit_done h
  · apply State.writeMem_read_outside
    unfold touches at hx
    omega
  · rfl

/-! ### The loads and stores of the instructions -/

theorem mapValue_done {f : Word → Word} {r : MemResult Word} {d : Word} {t : State}
    (h : r.mapValue f = .done d t) : ∃ d', r = .done d' t ∧ d = f d' := by
  cases r <;> simp [MemResult.mapValue] at h
  obtain ⟨rfl, rfl⟩ := h
  exact ⟨_, rfl, rfl⟩

/-- A load, of any width, leaves the core and memory as they were. -/
theorem loadWord_core {a d : Word} {priv : Bool} {s t : State} (h : loadWord a priv s = .done d t) :
    CoreKept s t ∧ t.mem = s.mem := by
  obtain ⟨_, h', -⟩ := mapValue_done h
  exact loadUnit_core h'

theorem loadByte_core {a d : Word} {priv : Bool} {s t : State} (h : loadByte a priv s = .done d t) :
    CoreKept s t ∧ t.mem = s.mem := loadUnit_core h

theorem loadSignedByte_core {a d : Word} {priv : Bool} {s t : State} (h : loadSignedByte a priv s = .done d t) :
    CoreKept s t ∧ t.mem = s.mem := by
  obtain ⟨_, h', -⟩ := mapValue_done h
  exact loadUnit_core h'

theorem loadHalf_core {a d : Word} {priv : Bool} {s t : State} (h : loadHalf a priv s = .done d t) :
    CoreKept s t ∧ t.mem = s.mem := by
  unfold loadHalf loadOddHalf at h
  split at h
  · cases h; exact ⟨by constructor <;> rfl, rfl⟩
  · exact loadUnit_core h

theorem loadSignedHalf_core {a d : Word} {priv : Bool} {s t : State} (h : loadSignedHalf a priv s = .done d t) :
    CoreKept s t ∧ t.mem = s.mem := by
  unfold loadSignedHalf loadOddHalf at h
  split at h
  · cases h; exact ⟨by constructor <;> rfl, rfl⟩
  · obtain ⟨_, h', -⟩ := mapValue_done h
    exact loadUnit_core h'

/-- What a completed word store is: the unit store. -/
theorem storeWord_done {a v : Word} {priv : Bool} {u : Unit} {s t : State} (h : storeWord a v priv s = .done u t) :
    storeUnit .word a v priv s = .done u t := by
  unfold storeWord at h
  split at h
  · cases h
  · exact h

theorem storeHalf_done {a v : Word} {priv : Bool} {u : Unit} {s t : State} (h : storeHalf a v priv s = .done u t) :
    storeUnit .half a (v &&& 0x0000FFFF#32) priv s = .done u t := by
  unfold storeHalf at h
  split at h
  · cases h
  · exact h

end Sys2Proof.Machine
end

