-- ==== Sys2Proof/Laws/Control.lean ====
section
/-! SUPPORT. What each shared control operation can do, said once: conditions, refusals, advancing, writing the PC,
exceptions, and the ends of the instruction classes. -/

namespace Sys2Proof.Machine

/-! ### Conditions and refusals -/

theorem conditionally_pass {c : Cond} {s : State} {body : Outcome} (h : condPassed c s.cpsr = true) :
    conditionally c s body = body := by
  simp [conditionally, h]

theorem conditionally_fail {c : Cond} {s : State} {body : Outcome} (h : condPassed c s.cpsr = false) :
    conditionally c s body = advance s := by
  simp [conditionally, h]

/-- A conditional meaning that answers a next state ran its body or advanced. -/
theorem conditionally_next {c : Cond} {s t : State} {body : Outcome} (h : conditionally c s body = .next t) :
    (condPassed c s.cpsr = true ∧ body = .next t) ∨ (condPassed c s.cpsr = false ∧ advance s = .next t) := by
  unfold conditionally at h
  split at h
  · next hc => exact .inl ⟨hc, h⟩
  · next hc => exact .inr ⟨by simpa using hc, h⟩

@[simp] theorem refuseIf_false (r : Refusal) (body : Outcome) : refuseIf false r body = body := rfl
@[simp] theorem refuseIf_true (r : Refusal) (body : Outcome) : refuseIf true r body = .refused r := rfl

/-- A checked meaning that answers a next state met the restriction. -/
theorem refuseIf_next {b : Bool} {r : Refusal} {body : Outcome} {t : State} (h : refuseIf b r body = .next t) :
    b = false ∧ body = .next t := by
  cases b <;> simp_all

/-! ### The program counter -/

theorem advance_next_iff {s t : State} : advance s = .next t ↔ s.pc ≠ 0xFFFFFFFC#32 ∧ t = { s with pc := s.pc + 4#32 } := by
  unfold advance
  split
  · next h => simp [h]
  · next h => simp only [Host.Outcome.next.injEq, ne_eq, h, not_false_eq_true, true_and]; exact eq_comm

theorem advance_of_ne {s : State} (h : s.pc ≠ 0xFFFFFFFC#32) : advance s = .next { s with pc := s.pc + 4#32 } := by
  simp [advance, h]

/-- What a completed write of the PC gives (40_branch.md R221). -/
theorem writePc_next {x : Word} {s t : State} (h : writePc x s = .next t) :
    (s.cpsr.t = true ∧ t = { s with pc := x &&& 0xFFFFFFFE#32 }) ∨
    (s.cpsr.t = false ∧ wordAligned x = true ∧ t = { s with pc := x }) := by
  unfold writePc at h
  split at h
  · next ht => cases h; exact .inl ⟨ht, rfl⟩
  · next ht =>
    split at h
    · next ha => cases h; exact .inr ⟨by simpa using ht, ha, rfl⟩
    · cases h

theorem writePc_arm {x : Word} {s : State} (ht : s.cpsr.t = false) (ha : wordAligned x = true) :
    writePc x s = .next { s with pc := x } := by
  simp [writePc, ht, ha]

/-- Adding a multiple of four to an aligned address keeps it aligned. -/
theorem wordAligned_add {a b : Word} (ha : wordAligned a = true) (hb : wordAligned b = true) :
    wordAligned (a + b) = true := by
  simp only [wordAligned, beq_iff_eq] at *
  have h1 : a.toNat % 4 = 0 := by have := congrArg BitVec.toNat ha; simpa using this
  have h2 : b.toNat % 4 = 0 := by have := congrArg BitVec.toNat hb; simpa using this
  apply BitVec.eq_of_toNat_eq
  simp only [BitVec.extractLsb'_toNat, BitVec.toNat_add, Nat.shiftRight_zero]
  simp
  omega

/-! ### Exceptions -/

/-- What a completed exception return gives (60_exceptions.md R520). -/
theorem exceptionReturn_next {x : Word} {s t : State} (h : exceptionReturn x s = .next t) :
    ∃ p, s.spsr = some p ∧ writePc x { s with cpsr := p } = .next t := by
  unfold exceptionReturn at h
  split at h
  · cases h
  · next p e => exact ⟨p, e, h⟩

theorem enterException_gpr_link (k : ExceptionKind) (l : Word) (s : State) :
    (enterException k l s).gpr k.mode.linkReg = l := by
  simp [State.gpr]

/-- An exception entry writes one general register, the link register of the mode entered. -/
theorem enterException_gpr_other (k : ExceptionKind) (l : Word) (s : State) {q : PhysReg} (h : q ≠ k.mode.linkReg) :
    (enterException k l s).gpr q = s.gpr q := by
  rw [State.gpr_congr (s := s.setGpr k.mode.linkReg l) (by simp)]
  exact State.gpr_setGpr_other s l h

theorem enterException_gpr (k : ExceptionKind) (l : Word) (s : State) (q : PhysReg) :
    (enterException k l s).gpr q = if q = k.mode.linkReg then l else s.gpr q := by
  split
  · next h => rw [h, enterException_gpr_link]
  · next h => exact enterException_gpr_other k l s h

/-- The link register of each exception (60_exceptions.md R510). -/
@[simp] theorem linkReg_reset : ExceptionKind.reset.mode.linkReg = .r14svc := rfl
@[simp] theorem linkReg_undefined : ExceptionKind.undefined.mode.linkReg = .r14und := rfl
@[simp] theorem linkReg_swi : ExceptionKind.swi.mode.linkReg = .r14svc := rfl
@[simp] theorem linkReg_prefetchAbort : ExceptionKind.prefetchAbort.mode.linkReg = .r14abt := rfl
@[simp] theorem linkReg_dataAbort : ExceptionKind.dataAbort.mode.linkReg = .r14abt := rfl
@[simp] theorem linkReg_irq : ExceptionKind.irq.mode.linkReg = .r14irq := rfl
@[simp] theorem linkReg_fiq : ExceptionKind.fiq.mode.linkReg = .r14fiq := rfl

/-- An exception entry saves the CPSR in the SPSR of the mode entered. -/
theorem enterException_spsrOf (k : ExceptionKind) (l : Word) (s : State) :
    (enterException k l s).spsrOf k.mode = some s.cpsr := by
  cases k <;> rfl

/-- An exception entry leaves the SPSRs of the other modes alone. -/
theorem enterException_spsrOf_other (k : ExceptionKind) (l : Word) (s : State) {m : Mode} (h : m ≠ k.mode) :
    (enterException k l s).spsrOf m = s.spsrOf m := by
  cases k <;> cases m <;> first | rfl | exact absurd rfl h

theorem dataAbort_next {s t : State} : dataAbort s = .next t ↔ t = enterException .dataAbort (s.pc + 8#32) s := by
  simp [dataAbort, eq_comm]

/-! ### The ends of the instruction classes -/

/-- What the end of a completed load does. -/
theorem finishLoad_next {r : MemResult Word} {x : Indexed} {rn rd : Reg} {s t : State}
    (h : finishLoad r x rn rd s = .next t) :
    (∃ d s1, r = .done d s1 ∧
      ((rd = 15#4 ∧ writePc d (s1.writeBase rn x) = .next t) ∨
       (rd ≠ 15#4 ∧ advance ((s1.writeBase rn x).setReg rd d) = .next t))) ∨
    (r = .aborted ∧ t = enterException .dataAbort ((s.writeBase rn x).pc + 8#32) (s.writeBase rn x)) := by
  unfold finishLoad at h
  split at h
  · next d s1 =>
    split at h
    · next hr => exact .inl ⟨d, s1, rfl, .inl ⟨hr, h⟩⟩
    · next hr => exact .inl ⟨d, s1, rfl, .inr ⟨hr, h⟩⟩
  · exact .inr ⟨rfl, dataAbort_next.mp h⟩
  · cases h
  · cases h

/-- What the end of a completed store does. -/
theorem finishStore_next {r : MemResult Unit} {x : Indexed} {rn : Reg} {s t : State}
    (h : finishStore r x rn s = .next t) :
    (∃ s1, r = .done () s1 ∧ advance (s1.writeBase rn x) = .next t) ∨
    (r = .aborted ∧ t = enterException .dataAbort ((s.writeBase rn x).pc + 8#32) (s.writeBase rn x)) := by
  unfold finishStore at h
  split at h
  · next s1 => exact .inl ⟨s1, rfl, h⟩
  · exact .inr ⟨rfl, dataAbort_next.mp h⟩
  · cases h
  · cases h

/-- What the end of a completed swap does. -/
theorem swap_next {rd : Reg} {load : State → MemResult Word} {store : State → MemResult Unit} {s t : State}
    (h : swap rd load store s = .next t) :
    (∃ d s1 s2, load s = .done d s1 ∧ store s1 = .done () s2 ∧ advance (s2.setReg rd d) = .next t) ∨
    ((load s = .aborted ∨ ∃ d s1, load s = .done d s1 ∧ store s1 = .aborted) ∧
      t = enterException .dataAbort (s.pc + 8#32) s) := by
  unfold swap at h
  split at h
  · next d s1 e =>
    split at h
    · next s2 e2 => exact .inl ⟨d, s1, s2, e, e2, h⟩
    · next e2 => exact .inr ⟨.inr ⟨d, s1, e, e2⟩, dataAbort_next.mp h⟩
    · cases h
    · cases h
  · next e => exact .inr ⟨.inl e, dataAbort_next.mp h⟩
  · cases h
  · cases h

/-- What the end of a completed result-writing operation does (41_data_processing.md R260 to R262). -/
theorem writeResult_next {sf : Bool} {rd : Reg} {r : AluResult} {s t : State} (h : writeResult sf rd r s = .next t) :
    (rd = 15#4 ∧ sf = true ∧ exceptionReturn r.val s = .next t) ∨
    (rd = 15#4 ∧ sf = false ∧ writePc r.val s = .next t) ∨
    (rd ≠ 15#4 ∧ sf = true ∧ advance ((s.setReg rd r.val).setAluFlags r) = .next t) ∨
    (rd ≠ 15#4 ∧ sf = false ∧ advance (s.setReg rd r.val) = .next t) := by
  unfold writeResult at h
  cases sf <;> by_cases hr : rd = 15#4 <;> simp_all

/-- What a completed MSR to the whole CPSR does (42_psr_transfer.md R302, R305). -/
theorem writeWholeCpsr_next {v : Word} {s t : State} (h : writeWholeCpsr v s = .next t) :
    (s.privileged = true ∧ v.getLsbD 5 = s.cpsr.t ∧ advance { s with cpsr := PSR.ofWord v } = .next t) ∨
    (s.privileged = false ∧ advance { s with cpsr := s.cpsr.withFlagsOf v } = .next t) := by
  unfold writeWholeCpsr at h
  split at h
  · next hp =>
    obtain ⟨h1, h2⟩ := refuseIf_next h
    exact .inl ⟨hp, by simpa using h1, h2⟩
  · next hp => exact .inr ⟨by simpa using hp, h⟩

/-- What a completed write to an SPSR does. -/
theorem changeSpsr_next {f : PSR → PSR} {s t : State} (h : changeSpsr f s = .next t) :
    ∃ p, s.spsr = some p ∧ advance (s.setSpsr (f p)) = .next t := by
  unfold changeSpsr at h
  split at h
  · cases h
  · next p e => exact ⟨p, e, h⟩

/-! ### Block transfers -/

/-- What the write of one register of a bank leaves alone. -/
structure RegsOnly (s t : State) : Prop where
  pc : t.pc = s.pc
  cpsr : t.cpsr = s.cpsr
  spsrFiq : t.spsrFiq = s.spsrFiq
  spsrIrq : t.spsrIrq = s.spsrIrq
  spsrSvc : t.spsrSvc = s.spsrSvc
  spsrAbt : t.spsrAbt = s.spsrAbt
  spsrUnd : t.spsrUnd = s.spsrUnd
  mem : t.mem = s.mem
  bigend : t.bigend = s.bigend
  om : t.om = s.om
  map : t.map = s.map
  misaligned : t.misaligned = s.misaligned
  aborts : t.aborts = s.aborts
  inputs : t.inputs = s.inputs
  bankHazard : t.bankHazard = s.bankHazard

theorem RegsOnly.rfl {s : State} : RegsOnly s s := by constructor <;> exact Eq.refl _

theorem RegsOnly.trans {s t u : State} (h : RegsOnly s t) (h' : RegsOnly t u) : RegsOnly s u := by
  constructor <;> first
    | exact h'.pc.trans h.pc | exact h'.cpsr.trans h.cpsr | exact h'.spsrFiq.trans h.spsrFiq
    | exact h'.spsrIrq.trans h.spsrIrq | exact h'.spsrSvc.trans h.spsrSvc | exact h'.spsrAbt.trans h.spsrAbt
    | exact h'.spsrUnd.trans h.spsrUnd | exact h'.mem.trans h.mem | exact h'.bigend.trans h.bigend
    | exact h'.om.trans h.om | exact h'.map.trans h.map | exact h'.misaligned.trans h.misaligned
    | exact h'.aborts.trans h.aborts | exact h'.inputs.trans h.inputs
    | exact h'.bankHazard.trans h.bankHazard

theorem State.setReg_only (s : State) (i : Reg) (v : Word) : RegsOnly s (s.setReg i v) := by
  constructor <;> simp

theorem State.setUserReg_only (s : State) (i : Reg) (v : Word) : RegsOnly s (s.setUserReg i v) := by
  constructor <;> simp

theorem State.writeBase_only (s : State) (rn : Reg) (x : Indexed) : RegsOnly s (s.writeBase rn x) := by
  constructor <;> simp

theorem State.withNewBase_only (s : State) (w : Bool) (rn : Reg) (b : Word) : RegsOnly s (s.withNewBase w rn b) := by
  constructor <;> simp

theorem CoreKept.regsOnly {s t : State} (h : CoreKept s t) (hm : t.mem = s.mem) : RegsOnly s t := by
  constructor <;> first
    | exact h.pc | exact h.cpsr | exact h.spsrFiq | exact h.spsrIrq | exact h.spsrSvc | exact h.spsrAbt
    | exact h.spsrUnd | exact hm | exact h.bigend | exact h.om | exact h.map | exact h.misaligned
    | exact h.aborts | exact h.inputs | exact h.bankHazard

/-- A run of block loads changes registers only, however it ends. -/
theorem loadBlock_only {put : State → Reg → Word → State} (hput : ∀ s i v, RegsOnly s (put s i v)) :
    ∀ (regs : List Reg) (a : Word) (target : Option Word) (s : State),
      (∀ x t, loadBlock put regs a target s = .done x t → RegsOnly s t) ∧
      (∀ t, loadBlock put regs a target s = .aborted t → RegsOnly s t) := by
  intro regs
  induction regs with
  | nil =>
    intro a target s
    refine ⟨?_, ?_⟩
    · intro x t h; simp only [loadBlock, BlockLoad.done.injEq] at h; rw [← h.2]; exact .rfl
    · intro t h; simp [loadBlock] at h
  | cons i rest ih =>
    intro a target s
    unfold loadBlock
    split
    · next d s1 e =>
      have h1 : RegsOnly s s1 := (loadUnit_core e).1.regsOnly (loadUnit_core e).2
      split
      · exact ⟨fun x t h => h1.trans ((ih _ _ _).1 x t h), fun t h => h1.trans ((ih _ _ _).2 t h)⟩
      · exact ⟨fun x t h => h1.trans ((hput _ _ _).trans ((ih _ _ _).1 x t h)),
          fun t h => h1.trans ((hput _ _ _).trans ((ih _ _ _).2 t h))⟩
    · exact ⟨by simp, by intro t h; cases h; exact .rfl⟩
    · simp
    · simp

/-- A run of block loads answers a word for R15 exactly if R15 is in the list, once it completes. -/
theorem loadBlock_target {put : State → Reg → Word → State} :
    ∀ (regs : List Reg) (a : Word) (target : Option Word) (s : State) (x : Option Word) (t : State),
      loadBlock put regs a target s = .done x t → (x.isSome ↔ target.isSome ∨ 15#4 ∈ regs) := by
  intro regs
  induction regs with
  | nil =>
    intro a target s x t h
    simp only [loadBlock, BlockLoad.done.injEq] at h
    simp [h.1]
  | cons i rest ih =>
    intro a target s x t h
    unfold loadBlock at h
    split at h
    · split at h
      · next hi => rw [ih _ _ _ _ _ h]; simp [hi]
      · next hi => rw [ih _ _ _ _ _ h]; simp [Ne.symm hi]
    · cases h
    · cases h
    · cases h

/-- A run of block stores leaves the core alone, and keeps the canonical form of memory. -/
theorem storeBlock_core :
    ∀ (vs : List Word) (a : Word) (ab : Bool) (s : State) (x : Bool) (t : State),
      storeBlock vs a ab s = .done x t → CoreKept s t ∧ (s.mem.wf = true → t.mem.wf = true) := by
  intro vs
  induction vs with
  | nil =>
    intro a ab s x t h
    simp only [storeBlock, BlockStore.done.injEq] at h
    rw [← h.2]
    exact ⟨.rfl, id⟩
  | cons v rest ih =>
    intro a ab s x t h
    unfold storeBlock at h
    split at h
    · next s1 e =>
      have := ih _ _ _ _ _ h
      exact ⟨(storeUnit_core e).trans this.1, fun hs => this.2 (storeUnit_wf e hs)⟩
    · exact ih _ _ _ _ _ h
    · cases h
    · cases h

end Sys2Proof.Machine
end

