-- ==== Sys2Proof/Laws/Decode.lean ====
section
/-! SUPPORT. The codes of the small fields read back, and the condition field of every word format. -/

namespace Sys2Proof

@[simp] theorem Cond.ofBits_bits (c : Cond) : Cond.ofBits c.bits = some c := by
  cases c <;> rfl

/-- A condition code that decodes is the code of its condition (30_encoding.md R171). -/
theorem Cond.bits_of_ofBits {b : BitVec 4} {c : Cond} (h : Cond.ofBits b = some c) : c.bits = b := by
  revert h; revert c; revert b; decide

/-- Every condition code but 1111 decodes (30_encoding.md R164). -/
theorem Cond.ofBits_eq_none {b : BitVec 4} : Cond.ofBits b = none ↔ b = 0b1111#4 := by
  revert b; decide

@[simp] theorem Opcode.ofBits_bits (op : Opcode) : Opcode.ofBits op.bits = op := by
  cases op <;> rfl

@[simp] theorem Opcode.bits_ofBits (b : BitVec 4) : (Opcode.ofBits b).bits = b := by
  revert b; decide

@[simp] theorem ShiftKind.ofBits_bits (k : ShiftKind) : ShiftKind.ofBits k.bits = k := by
  cases k <;> rfl

@[simp] theorem ShiftKind.bits_ofBits (b : BitVec 2) : (ShiftKind.ofBits b).bits = b := by
  revert b; decide

/-! ### The condition field of each format (30_encoding.md R170) -/

theorem dataImmWord_cond (c : Cond) (op : Opcode) (sf : Bool) (rn rd : Reg) (o : RotImm) :
    (dataImmWord c op sf rn rd o).extractLsb' 28 4 = c.bits := by
  unfold dataImmWord
  simp (disch := omega) only [BitVec.extractLsb'_append_eq_of_le]
  exact BitVec.extractLsb'_eq_self

theorem dataShiftWord_cond (c : Cond) (op : Opcode) (sf : Bool) (rn rd : Reg) (o : ShiftImm) :
    (dataShiftWord c op sf rn rd o).extractLsb' 28 4 = c.bits := by
  unfold dataShiftWord
  simp (disch := omega) only [BitVec.extractLsb'_append_eq_of_le]
  exact BitVec.extractLsb'_eq_self

theorem dataRegShiftWord_cond (c : Cond) (op : Opcode) (sf : Bool) (rn rd : Reg) (o : ShiftReg) :
    (dataRegShiftWord c op sf rn rd o).extractLsb' 28 4 = c.bits := by
  unfold dataRegShiftWord
  simp (disch := omega) only [BitVec.extractLsb'_append_eq_of_le]
  exact BitVec.extractLsb'_eq_self

theorem mulWord_cond (c : Cond) (a sf : Bool) (rd rn rs rm : Reg) :
    (mulWord c a sf rd rn rs rm).extractLsb' 28 4 = c.bits := by
  unfold mulWord
  simp (disch := omega) only [BitVec.extractLsb'_append_eq_of_le]
  exact BitVec.extractLsb'_eq_self

theorem mulLongWord_cond (c : Cond) (u a sf : Bool) (rdHi rdLo rs rm : Reg) :
    (mulLongWord c u a sf rdHi rdLo rs rm).extractLsb' 28 4 = c.bits := by
  unfold mulLongWord
  simp (disch := omega) only [BitVec.extractLsb'_append_eq_of_le]
  exact BitVec.extractLsb'_eq_self

theorem swapWord_cond (c : Cond) (b : Bool) (rn rd rm : Reg) :
    (swapWord c b rn rd rm).extractLsb' 28 4 = c.bits := by
  unfold swapWord
  simp (disch := omega) only [BitVec.extractLsb'_append_eq_of_le]
  exact BitVec.extractLsb'_eq_self

theorem bxWord_cond (c : Cond) (rn : Reg) :
    (bxWord c rn).extractLsb' 28 4 = c.bits := by
  unfold bxWord
  simp (disch := omega) only [BitVec.extractLsb'_append_eq_of_le]
  exact BitVec.extractLsb'_eq_self

theorem mrsWord_cond (c : Cond) (ps : Bool) (rd : Reg) :
    (mrsWord c ps rd).extractLsb' 28 4 = c.bits := by
  unfold mrsWord
  simp (disch := omega) only [BitVec.extractLsb'_append_eq_of_le]
  exact BitVec.extractLsb'_eq_self

theorem msrRegWord_cond (c : Cond) (pd whole : Bool) (rm : Reg) :
    (msrRegWord c pd whole rm).extractLsb' 28 4 = c.bits := by
  unfold msrRegWord
  simp (disch := omega) only [BitVec.extractLsb'_append_eq_of_le]
  exact BitVec.extractLsb'_eq_self

theorem msrImmWord_cond (c : Cond) (pd : Bool) (o : RotImm) :
    (msrImmWord c pd o).extractLsb' 28 4 = c.bits := by
  unfold msrImmWord
  simp (disch := omega) only [BitVec.extractLsb'_append_eq_of_le]
  exact BitVec.extractLsb'_eq_self

theorem halfRegWord_cond (c : Cond) (p u w l s h : Bool) (rn rd rm : Reg) :
    (halfRegWord c p u w l s h rn rd rm).extractLsb' 28 4 = c.bits := by
  unfold halfRegWord
  simp (disch := omega) only [BitVec.extractLsb'_append_eq_of_le]
  exact BitVec.extractLsb'_eq_self

theorem halfImmWord_cond (c : Cond) (p u w l s h : Bool) (rn rd : Reg) (off : BitVec 8) :
    (halfImmWord c p u w l s h rn rd off).extractLsb' 28 4 = c.bits := by
  unfold halfImmWord
  simp (disch := omega) only [BitVec.extractLsb'_append_eq_of_le]
  exact BitVec.extractLsb'_eq_self

theorem sdtImmWord_cond (c : Cond) (p u b w l : Bool) (rn rd : Reg) (off : BitVec 12) :
    (sdtImmWord c p u b w l rn rd off).extractLsb' 28 4 = c.bits := by
  unfold sdtImmWord
  simp (disch := omega) only [BitVec.extractLsb'_append_eq_of_le]
  exact BitVec.extractLsb'_eq_self

theorem sdtRegWord_cond (c : Cond) (p u b w l : Bool) (rn rd : Reg) (o : ShiftImm) :
    (sdtRegWord c p u b w l rn rd o).extractLsb' 28 4 = c.bits := by
  unfold sdtRegWord
  simp (disch := omega) only [BitVec.extractLsb'_append_eq_of_le]
  exact BitVec.extractLsb'_eq_self

theorem undefinedWord_cond (c : Cond) (hi : BitVec 20) (lo : BitVec 4) :
    (undefinedWord c hi lo).extractLsb' 28 4 = c.bits := by
  unfold undefinedWord
  simp (disch := omega) only [BitVec.extractLsb'_append_eq_of_le]
  exact BitVec.extractLsb'_eq_self

theorem blockWord_cond (c : Cond) (p u s w l : Bool) (rn : Reg) (list : BitVec 16) :
    (blockWord c p u s w l rn list).extractLsb' 28 4 = c.bits := by
  unfold blockWord
  simp (disch := omega) only [BitVec.extractLsb'_append_eq_of_le]
  exact BitVec.extractLsb'_eq_self

theorem branchWord_cond (c : Cond) (l : Bool) (off : BitVec 24) :
    (branchWord c l off).extractLsb' 28 4 = c.bits := by
  unfold branchWord
  simp (disch := omega) only [BitVec.extractLsb'_append_eq_of_le]
  exact BitVec.extractLsb'_eq_self

theorem copTransferWord_cond (c : Cond) (p u n w l : Bool) (rn crd cp : Reg) (off : BitVec 8) :
    (copTransferWord c p u n w l rn crd cp off).extractLsb' 28 4 = c.bits := by
  unfold copTransferWord
  simp (disch := omega) only [BitVec.extractLsb'_append_eq_of_le]
  exact BitVec.extractLsb'_eq_self

theorem copDataWord_cond (c : Cond) (opc : BitVec 4) (crn crd cp : Reg) (info : BitVec 3) (crm : Reg) :
    (copDataWord c opc crn crd cp info crm).extractLsb' 28 4 = c.bits := by
  unfold copDataWord
  simp (disch := omega) only [BitVec.extractLsb'_append_eq_of_le]
  exact BitVec.extractLsb'_eq_self

theorem copRegisterWord_cond (c : Cond) (opc : BitVec 3) (l : Bool) (crn rd cp : Reg) (info : BitVec 3) (crm : Reg) :
    (copRegisterWord c opc l crn rd cp info crm).extractLsb' 28 4 = c.bits := by
  unfold copRegisterWord
  simp (disch := omega) only [BitVec.extractLsb'_append_eq_of_le]
  exact BitVec.extractLsb'_eq_self

theorem swiWord_cond (c : Cond) (comment : BitVec 24) :
    (swiWord c comment).extractLsb' 28 4 = c.bits := by
  unfold swiWord
  simp (disch := omega) only [BitVec.extractLsb'_append_eq_of_le]
  exact BitVec.extractLsb'_eq_self

end Sys2Proof
end

