-- ==== Sys2Proof/Laws/Forms.lean ====
section
/-! SUPPORT. What `exec` is for each group of instructions of `Claims`, once its condition passes and no restriction is
broken: one shared operation on the group's operands. -/

namespace Sys2Proof.Machine

/-! ### Restrictions -/

theorem firstBroken_cons_none {b : Bool} {r : Refusal} {rest : List (Bool × Refusal)} :
    firstBroken ((b, r) :: rest) = none ↔ b = false ∧ firstBroken rest = none := by
  cases b <;> simp [firstBroken]

theorem firstBroken_append_none {l l' : List (Bool × Refusal)} :
    firstBroken (l ++ l') = none ↔ firstBroken l = none ∧ firstBroken l' = none := by
  induction l with
  | nil => simp [firstBroken]
  | cons x rest ih => obtain ⟨b, r⟩ := x; simp [firstBroken_cons_none, ih, and_assoc]

theorem writeBackChecked_ok {w : Bool} {rn rd : Reg} (h : firstBroken (writeBackRules w rn rd) = none)
    (body : Outcome) : writeBackChecked w rn rd body = body := by
  simp only [writeBackRules, firstBroken_cons_none] at h
  simp [writeBackChecked, refuseIf, h.1, h.2.1]

theorem preRegChecked_ok {w : Bool} {rn rd rm : Reg}
    (h : firstBroken ((rm == 15#4, .offsetR15) :: writeBackRules w rn rd) = none) (body : Outcome) :
    preRegChecked w rn rd rm body = body := by
  obtain ⟨h1, h2⟩ := firstBroken_cons_none.mp h
  simp [preRegChecked, refuseIf, h1, writeBackChecked_ok h2]

theorem postRegChecked_ok {rn rd rm : Reg} (h : firstBroken (postRegRules rn rd rm) = none) (body : Outcome) :
    postRegChecked rn rd rm body = body := by
  obtain ⟨h1, h2⟩ := firstBroken_append_none.mp h
  simp only [firstBroken_cons_none] at h1
  simp [postRegChecked, refuseIf, h1.1, h1.2.1, writeBackChecked_ok h2]

theorem halfImmChecked_ok {p w : Bool} {rn rd : Reg} (h : firstBroken (halfImmRules p w rn rd) = none)
    (body : Outcome) : halfImmChecked p w rn rd body = body := by
  obtain ⟨h1, h2⟩ := firstBroken_cons_none.mp h
  simp [halfImmChecked, refuseIf, h1, writeBackChecked_ok h2]

theorem halfRegChecked_ok {p w : Bool} {rn rd rm : Reg} (h : firstBroken (halfRegRules p w rn rd rm) = none)
    (body : Outcome) : halfRegChecked p w rn rd rm body = body := by
  obtain ⟨h12, h3⟩ := firstBroken_append_none.mp h
  obtain ⟨h1, h2⟩ := firstBroken_append_none.mp h12
  simp only [firstBroken_cons_none] at h1 h3
  simp [halfRegChecked, refuseIf, h1.1, h1.2.1, h3.1, writeBackChecked_ok h2]

/-- A form that writes its base back names neither R15 as the base nor the base as the destination. -/
theorem writeBackRules_ok {w : Bool} {rn rd : Reg} (h : firstBroken (writeBackRules w rn rd) = none) (hw : w = true) :
    rn ≠ 15#4 ∧ rd ≠ rn := by
  subst hw
  simp only [writeBackRules, firstBroken_cons_none] at h
  simpa using And.intro h.1 h.2.1

@[simp] theorem preIndexed_writeBack_isSome (u w : Bool) (base off : Word) :
    (preIndexed u w base off).writeBack.isSome = w := by
  cases w <;> rfl

@[simp] theorem postIndexed_writeBack_isSome (u : Bool) (base off : Word) :
    (postIndexed u base off).writeBack.isSome = true := rfl

@[simp] theorem indexedBy_writeBack_isSome (p u w : Bool) (base off : Word) :
    (indexedBy p u w base off).writeBack.isSome = (!p || w) := by
  cases p <;> simp [indexedBy]

/-! ### Data processing -/

theorem exec_resultForm {i : Instr} {s : State} {f : DataForm} (h : resultForm i s = some f)
    (hc : condPassed f.cond s.cpsr = true) (hb : f.broken = none) :
    exec i s = writeResult f.sf f.rd (alu f.op f.op1 f.op2 s.cpsr) s := by
  cases i <;> simp only [resultForm, Option.some.injEq, reduceCtorEq] at h <;> subst h <;>
    simp only [firstBroken_cons_none] at hb hc ⊢ <;>
    simp only [exec, execAndImm, execAndShift, execAndRegShift, execEorImm, execEorShift, execEorRegShift, execSubImm,
      execSubShift, execSubRegShift, execRsbImm, execRsbShift, execRsbRegShift, execAddImm, execAddShift,
      execAddRegShift, execAdcImm, execAdcShift, execAdcRegShift, execSbcImm, execSbcShift, execSbcRegShift,
      execRscImm, execRscShift, execRscRegShift, execOrrImm, execOrrShift, execOrrRegShift, execMovImm, execMovShift,
      execMovRegShift, execBicImm, execBicShift, execBicRegShift, execMvnImm, execMvnShift, execMvnRegShift,
      conditionally_pass hc, hb, refuseIf_false]

theorem exec_testForm {i : Instr} {s : State} {f : DataForm} (h : testForm i s = some f)
    (hc : condPassed f.cond s.cpsr = true) (hb : f.broken = none) :
    exec i s = advance (s.setAluFlags (alu f.op f.op1 f.op2 s.cpsr)) := by
  cases i <;> simp only [testForm, Option.some.injEq, reduceCtorEq] at h <;> subst h <;>
    simp only [firstBroken_cons_none] at hb hc ⊢ <;>
    simp only [exec, execTstImm, execTstShift, execTstRegShift, execTeqImm, execTeqShift, execTeqRegShift, execCmpImm,
      execCmpShift, execCmpRegShift, execCmnImm, execCmnShift, execCmnRegShift, testResult, conditionally_pass hc, hb,
      refuseIf_false]

/-! ### Multiplies -/

theorem exec_mulForm {i : Instr} {s : State} {f : MulForm} (h : mulForm i s = some f)
    (hc : condPassed f.cond s.cpsr = true) (hb : f.broken = none) :
    exec i s = writeProduct f.sf f.rd f.result s := by
  cases i <;> simp only [mulForm, Option.some.injEq, reduceCtorEq] at h <;> subst h <;>
    simp only [firstBroken_cons_none] at hb hc ⊢ <;>
    simp only [exec, execMul, execMla, conditionally_pass hc, hb, refuseIf_false]

theorem exec_longForm {i : Instr} {s : State} {f : LongForm} (h : longForm i = some f)
    (hc : condPassed f.cond s.cpsr = true) (hb : f.broken = none) :
    exec i s = writeLongProduct f.sf f.rdHi f.rdLo (BitVec.ofInt 64 (f.exact s)) s := by
  simp only [LongForm.broken, firstBroken_cons_none] at hb
  cases i <;> simp only [longForm, Option.some.injEq, reduceCtorEq] at h <;> subst h <;> simp only at hb hc ⊢ <;>
    simp only [exec, execUmull, execUmlal, execSmull, execSmlal, longChecked, conditionally_pass hc, hb,
      refuseIf_false, LongForm.exact, unsignedProduct, signedProduct, accumulator, if_true, if_false,
      Bool.false_eq_true, Int.add_zero, BitVec.ofInt_add, ← Int.natCast_mul, BitVec.ofInt_natCast, BitVec.ofInt_toInt,
      BitVec.ofNat_toNat, BitVec.setWidth_eq]

/-! ### Single transfers -/

/-- The load of a kind. -/
def LoadKind.load (k : LoadKind) (a : Word) (priv : Bool) (s : State) : MemResult Word :=
  match k with
  | .word => loadWord a priv s
  | .byte => loadByte a priv s
  | .signedByte => loadSignedByte a priv s
  | .half => loadHalf a priv s
  | .signedHalf => loadSignedHalf a priv s

/-- The store of a size. -/
def storeOf (z : Size) (a v : Word) (priv : Bool) (s : State) : MemResult Unit :=
  match z with
  | .word => storeWord a v priv s
  | .byte => storeByte a v priv s
  | .half => storeHalf a v priv s

theorem exec_loadForm {i : Instr} {s : State} {f : TransferForm} (h : loadForm i s = some f)
    (hc : condPassed f.cond s.cpsr = true) (hb : f.broken = none) :
    exec i s = finishLoad (f.kind.load f.x.addr f.priv s) f.x f.rn f.rd s := by
  cases i <;> simp only [loadForm, Option.some.injEq, reduceCtorEq] at h <;> subst h <;> dsimp only at hb hc ⊢ <;>
    simp only [exec, execLdrImmPre, execLdrRegPre, execLdrImmPost, execLdrRegPost, execLdrtImm, execLdrtReg,
      execLdrbImmPre, execLdrbRegPre, execLdrbImmPost, execLdrbRegPost, execLdrbtImm, execLdrbtReg, execLdrhReg,
      execLdrhImm, execLdrsbReg, execLdrsbImm, execLdrshReg, execLdrshImm, conditionally_pass hc, LoadKind.load] <;>
    first
    | exact writeBackChecked_ok hb _
    | exact preRegChecked_ok hb _
    | exact postRegChecked_ok hb _
    | exact halfRegChecked_ok hb _
    | exact halfImmChecked_ok hb _

theorem exec_storeForm {i : Instr} {s : State} {f : TransferForm} (h : storeForm i s = some f)
    (hc : condPassed f.cond s.cpsr = true) (hb : f.broken = none) :
    exec i s = finishStore (storeOf f.kind.size f.x.addr (s.readReg 12#32 f.rd) f.priv s) f.x f.rn s := by
  cases i <;> simp only [storeForm, Option.some.injEq, reduceCtorEq] at h <;> subst h <;> dsimp only at hb hc ⊢ <;>
    simp only [exec, execStrImmPre, execStrRegPre, execStrImmPost, execStrRegPost, execStrtImm, execStrtReg,
      execStrbImmPre, execStrbRegPre, execStrbImmPost, execStrbRegPost, execStrbtImm, execStrbtReg, execStrhReg,
      execStrhImm, conditionally_pass hc, LoadKind.size, storeOf] <;>
    first
    | exact writeBackChecked_ok hb _
    | exact preRegChecked_ok hb _
    | exact postRegChecked_ok hb _
    | exact halfRegChecked_ok hb _
    | exact halfImmChecked_ok hb _

/-- A load that breaks no restriction writes back no R15 and no base that is its destination. -/
theorem loadForm_writeBack {i : Instr} {s : State} {f : TransferForm} (h : loadForm i s = some f)
    (hb : f.broken = none) (hw : f.x.writeBack.isSome = true) : f.rn ≠ 15#4 ∧ f.rd ≠ f.rn := by
  cases i <;> simp only [loadForm, Option.some.injEq, reduceCtorEq] at h <;> subst h <;> dsimp only at hb hw ⊢ <;>
    first
    | exact writeBackRules_ok hb rfl
    | exact writeBackRules_ok (firstBroken_append_none.mp hb).2 rfl
    | exact writeBackRules_ok hb ((preIndexed_writeBack_isSome ..).symm.trans hw)
    | exact writeBackRules_ok (firstBroken_cons_none.mp hb).2 ((preIndexed_writeBack_isSome ..).symm.trans hw)
    | exact writeBackRules_ok (firstBroken_cons_none.mp hb).2 ((indexedBy_writeBack_isSome ..).symm.trans hw)
    | exact writeBackRules_ok (firstBroken_append_none.mp (firstBroken_append_none.mp hb).1).2
        ((indexedBy_writeBack_isSome ..).symm.trans hw)

/-- The same of a store. -/
theorem storeForm_writeBack {i : Instr} {s : State} {f : TransferForm} (h : storeForm i s = some f)
    (hb : f.broken = none) (hw : f.x.writeBack.isSome = true) : f.rn ≠ 15#4 ∧ f.rd ≠ f.rn := by
  cases i <;> simp only [storeForm, Option.some.injEq, reduceCtorEq] at h <;> subst h <;> dsimp only at hb hw ⊢ <;>
    first
    | exact writeBackRules_ok hb rfl
    | exact writeBackRules_ok (firstBroken_append_none.mp hb).2 rfl
    | exact writeBackRules_ok hb ((preIndexed_writeBack_isSome ..).symm.trans hw)
    | exact writeBackRules_ok (firstBroken_cons_none.mp hb).2 ((preIndexed_writeBack_isSome ..).symm.trans hw)
    | exact writeBackRules_ok (firstBroken_cons_none.mp hb).2 ((indexedBy_writeBack_isSome ..).symm.trans hw)
    | exact writeBackRules_ok (firstBroken_append_none.mp (firstBroken_append_none.mp hb).1).2
        ((indexedBy_writeBack_isSome ..).symm.trans hw)

/-- A load from ordinary memory, not of a halfword at an odd address, gives the value of its kind. -/
theorem LoadKind.load_of_canRead {k : LoadKind} {a : Word} {priv : Bool} {s : State} (h : s.CanRead k.size a priv)
    (hh : k.size = .half → a.getLsbD 0 = false) :
    k.load a priv s = .done (k.value a (s.readMem k.size (alignDown k.size a))) s := by
  have key := loadUnit_of_canRead h
  cases k <;> simp only [LoadKind.size] at key hh ⊢ <;>
    simp only [LoadKind.load, LoadKind.value, loadWord, loadByte, loadSignedByte, loadHalf, loadSignedHalf, key,
      MemResult.mapValue, hh, Bool.false_eq_true, if_false]

/-- A load of a listed readable special register, not of a halfword at an odd address, gives the value of its kind of a free
value. -/
theorem LoadKind.load_of_sfr {k : LoadKind} {a : Word} {priv : Bool} {s : State} {r : SfrRow}
    (hw : inSfrWindow a = true) (ha : s.abortsAccess .read a k.size priv = false)
    (hh : k.size = .half → a.getLsbD 0 = false) (hr : sfrRow s.bigend k.size (alignDown k.size a) = some r)
    (hd : r.readable = true) :
    k.load a priv s = .done (k.value a ((s.nextDraw (8 * k.size.bytes)).setWidth 32))
      { s.drawn with sfrLog := s.sfrLog ++ [.read r.name k.size] } := by
  have key := loadUnit_of_sfr hw ha hr hd
  cases k <;> simp only [LoadKind.size] at key hh ⊢ <;>
    simp only [LoadKind.load, LoadKind.value, loadWord, loadByte, loadSignedByte, loadHalf, loadSignedHalf, key,
      MemResult.mapValue, hh, Bool.false_eq_true, if_false]

/-! ### Block transfers -/

theorem blockChecked_ok {f : BlockForm} {s : State} (h : f.broken s = none) (body : Outcome) :
    blockChecked f.rn f.list s body = body := by
  simp only [BlockForm.broken, firstBroken_cons_none] at h
  simp [blockChecked, refuseIf, h.1, h.2.1, h.2.2.1]

theorem exec_ldmForm {i : Instr} {s : State} {f : BlockForm} (h : ldmForm i = some f)
    (hc : condPassed f.cond s.cpsr = true) : exec i s = loadMultiple f.p f.u f.w f.rn f.list s := by
  cases i <;> simp only [ldmForm, Option.some.injEq, reduceCtorEq] at h <;> subst h <;>
    simp only [exec, execLdmda, execLdmia, execLdmdb, execLdmib, conditionally_pass hc]

theorem exec_stmForm {i : Instr} {s : State} {f : BlockForm} (h : stmForm i = some f)
    (hc : condPassed f.cond s.cpsr = true) : exec i s = storeMultiple f.p f.u f.w f.rn f.list s := by
  cases i <;> simp only [stmForm, Option.some.injEq, reduceCtorEq] at h <;> subst h <;>
    simp only [exec, execStmda, execStmia, execStmdb, execStmib, conditionally_pass hc]

end Sys2Proof.Machine
end

