-- ==== Sys2Proof/Laws/PerInstr.lean ====
section
/-! SUPPORT. Statements made per instruction, one lemma for each constructor. -/

namespace Sys2Proof.Laws.CondField

/-- Bits 31:28 of the word of an instruction are the code of its condition (30_encoding.md R170, R171). -/
def Statement (i : Instr) : Prop :=
  (encode i).extractLsb' 28 4 = i.cond.bits

theorem bx (c : Cond) (rn : Reg) :
    Statement (.bx c rn) :=
  bxWord_cond ..

theorem mrs (c : Cond) (ps : Bool) (rd : Reg) :
    Statement (.mrs c ps rd) :=
  mrsWord_cond ..

theorem msrReg (c : Cond) (pd : Bool) (rm : Reg) :
    Statement (.msrReg c pd rm) :=
  msrRegWord_cond ..

theorem msrFlagsReg (c : Cond) (pd : Bool) (rm : Reg) :
    Statement (.msrFlagsReg c pd rm) :=
  msrRegWord_cond ..

theorem msrFlagsImm (c : Cond) (pd : Bool) (o : RotImm) :
    Statement (.msrFlagsImm c pd o) :=
  msrImmWord_cond ..

theorem mul (c : Cond) (sf : Bool) (rd rn rs rm : Reg) :
    Statement (.mul c sf rd rn rs rm) :=
  mulWord_cond ..

theorem mla (c : Cond) (sf : Bool) (rd rn rs rm : Reg) :
    Statement (.mla c sf rd rn rs rm) :=
  mulWord_cond ..

theorem umull (c : Cond) (sf : Bool) (rdHi rdLo rs rm : Reg) :
    Statement (.umull c sf rdHi rdLo rs rm) :=
  mulLongWord_cond ..

theorem umlal (c : Cond) (sf : Bool) (rdHi rdLo rs rm : Reg) :
    Statement (.umlal c sf rdHi rdLo rs rm) :=
  mulLongWord_cond ..

theorem smull (c : Cond) (sf : Bool) (rdHi rdLo rs rm : Reg) :
    Statement (.smull c sf rdHi rdLo rs rm) :=
  mulLongWord_cond ..

theorem smlal (c : Cond) (sf : Bool) (rdHi rdLo rs rm : Reg) :
    Statement (.smlal c sf rdHi rdLo rs rm) :=
  mulLongWord_cond ..

theorem swp (c : Cond) (rn rd rm : Reg) :
    Statement (.swp c rn rd rm) :=
  swapWord_cond ..

theorem swpb (c : Cond) (rn rd rm : Reg) :
    Statement (.swpb c rn rd rm) :=
  swapWord_cond ..

theorem strhReg (c : Cond) (p u w : Bool) (rn rd rm : Reg) :
    Statement (.strhReg c p u w rn rd rm) :=
  halfRegWord_cond ..

theorem ldrhReg (c : Cond) (p u w : Bool) (rn rd rm : Reg) :
    Statement (.ldrhReg c p u w rn rd rm) :=
  halfRegWord_cond ..

theorem ldrsbReg (c : Cond) (p u w : Bool) (rn rd rm : Reg) :
    Statement (.ldrsbReg c p u w rn rd rm) :=
  halfRegWord_cond ..

theorem ldrshReg (c : Cond) (p u w : Bool) (rn rd rm : Reg) :
    Statement (.ldrshReg c p u w rn rd rm) :=
  halfRegWord_cond ..

theorem strhImm (c : Cond) (p u w : Bool) (rn rd : Reg) (off : BitVec 8) :
    Statement (.strhImm c p u w rn rd off) :=
  halfImmWord_cond ..

theorem ldrhImm (c : Cond) (p u w : Bool) (rn rd : Reg) (off : BitVec 8) :
    Statement (.ldrhImm c p u w rn rd off) :=
  halfImmWord_cond ..

theorem ldrsbImm (c : Cond) (p u w : Bool) (rn rd : Reg) (off : BitVec 8) :
    Statement (.ldrsbImm c p u w rn rd off) :=
  halfImmWord_cond ..

theorem ldrshImm (c : Cond) (p u w : Bool) (rn rd : Reg) (off : BitVec 8) :
    Statement (.ldrshImm c p u w rn rd off) :=
  halfImmWord_cond ..

theorem andImm (c : Cond) (sf : Bool) (rn rd : Reg) (o : RotImm) :
    Statement (.andImm c sf rn rd o) :=
  dataImmWord_cond ..

theorem andShift (c : Cond) (sf : Bool) (rn rd : Reg) (o : ShiftImm) :
    Statement (.andShift c sf rn rd o) :=
  dataShiftWord_cond ..

theorem andRegShift (c : Cond) (sf : Bool) (rn rd : Reg) (o : ShiftReg) :
    Statement (.andRegShift c sf rn rd o) :=
  dataRegShiftWord_cond ..

theorem eorImm (c : Cond) (sf : Bool) (rn rd : Reg) (o : RotImm) :
    Statement (.eorImm c sf rn rd o) :=
  dataImmWord_cond ..

theorem eorShift (c : Cond) (sf : Bool) (rn rd : Reg) (o : ShiftImm) :
    Statement (.eorShift c sf rn rd o) :=
  dataShiftWord_cond ..

theorem eorRegShift (c : Cond) (sf : Bool) (rn rd : Reg) (o : ShiftReg) :
    Statement (.eorRegShift c sf rn rd o) :=
  dataRegShiftWord_cond ..

theorem subImm (c : Cond) (sf : Bool) (rn rd : Reg) (o : RotImm) :
    Statement (.subImm c sf rn rd o) :=
  dataImmWord_cond ..

theorem subShift (c : Cond) (sf : Bool) (rn rd : Reg) (o : ShiftImm) :
    Statement (.subShift c sf rn rd o) :=
  dataShiftWord_cond ..

theorem subRegShift (c : Cond) (sf : Bool) (rn rd : Reg) (o : ShiftReg) :
    Statement (.subRegShift c sf rn rd o) :=
  dataRegShiftWord_cond ..

theorem rsbImm (c : Cond) (sf : Bool) (rn rd : Reg) (o : RotImm) :
    Statement (.rsbImm c sf rn rd o) :=
  dataImmWord_cond ..

theorem rsbShift (c : Cond) (sf : Bool) (rn rd : Reg) (o : ShiftImm) :
    Statement (.rsbShift c sf rn rd o) :=
  dataShiftWord_cond ..

theorem rsbRegShift (c : Cond) (sf : Bool) (rn rd : Reg) (o : ShiftReg) :
    Statement (.rsbRegShift c sf rn rd o) :=
  dataRegShiftWord_cond ..

theorem addImm (c : Cond) (sf : Bool) (rn rd : Reg) (o : RotImm) :
    Statement (.addImm c sf rn rd o) :=
  dataImmWord_cond ..

theorem addShift (c : Cond) (sf : Bool) (rn rd : Reg) (o : ShiftImm) :
    Statement (.addShift c sf rn rd o) :=
  dataShiftWord_cond ..

theorem addRegShift (c : Cond) (sf : Bool) (rn rd : Reg) (o : ShiftReg) :
    Statement (.addRegShift c sf rn rd o) :=
  dataRegShiftWord_cond ..

theorem adcImm (c : Cond) (sf : Bool) (rn rd : Reg) (o : RotImm) :
    Statement (.adcImm c sf rn rd o) :=
  dataImmWord_cond ..

theorem adcShift (c : Cond) (sf : Bool) (rn rd : Reg) (o : ShiftImm) :
    Statement (.adcShift c sf rn rd o) :=
  dataShiftWord_cond ..

theorem adcRegShift (c : Cond) (sf : Bool) (rn rd : Reg) (o : ShiftReg) :
    Statement (.adcRegShift c sf rn rd o) :=
  dataRegShiftWord_cond ..

theorem sbcImm (c : Cond) (sf : Bool) (rn rd : Reg) (o : RotImm) :
    Statement (.sbcImm c sf rn rd o) :=
  dataImmWord_cond ..

theorem sbcShift (c : Cond) (sf : Bool) (rn rd : Reg) (o : ShiftImm) :
    Statement (.sbcShift c sf rn rd o) :=
  dataShiftWord_cond ..

theorem sbcRegShift (c : Cond) (sf : Bool) (rn rd : Reg) (o : ShiftReg) :
    Statement (.sbcRegShift c sf rn rd o) :=
  dataRegShiftWord_cond ..

theorem rscImm (c : Cond) (sf : Bool) (rn rd : Reg) (o : RotImm) :
    Statement (.rscImm c sf rn rd o) :=
  dataImmWord_cond ..

theorem rscShift (c : Cond) (sf : Bool) (rn rd : Reg) (o : ShiftImm) :
    Statement (.rscShift c sf rn rd o) :=
  dataShiftWord_cond ..

theorem rscRegShift (c : Cond) (sf : Bool) (rn rd : Reg) (o : ShiftReg) :
    Statement (.rscRegShift c sf rn rd o) :=
  dataRegShiftWord_cond ..

theorem tstImm (c : Cond) (rn rd : Reg) (o : RotImm) :
    Statement (.tstImm c rn rd o) :=
  dataImmWord_cond ..

theorem tstShift (c : Cond) (rn rd : Reg) (o : ShiftImm) :
    Statement (.tstShift c rn rd o) :=
  dataShiftWord_cond ..

theorem tstRegShift (c : Cond) (rn rd : Reg) (o : ShiftReg) :
    Statement (.tstRegShift c rn rd o) :=
  dataRegShiftWord_cond ..

theorem teqImm (c : Cond) (rn rd : Reg) (o : RotImm) :
    Statement (.teqImm c rn rd o) :=
  dataImmWord_cond ..

theorem teqShift (c : Cond) (rn rd : Reg) (o : ShiftImm) :
    Statement (.teqShift c rn rd o) :=
  dataShiftWord_cond ..

theorem teqRegShift (c : Cond) (rn rd : Reg) (o : ShiftReg) :
    Statement (.teqRegShift c rn rd o) :=
  dataRegShiftWord_cond ..

theorem cmpImm (c : Cond) (rn rd : Reg) (o : RotImm) :
    Statement (.cmpImm c rn rd o) :=
  dataImmWord_cond ..

theorem cmpShift (c : Cond) (rn rd : Reg) (o : ShiftImm) :
    Statement (.cmpShift c rn rd o) :=
  dataShiftWord_cond ..

theorem cmpRegShift (c : Cond) (rn rd : Reg) (o : ShiftReg) :
    Statement (.cmpRegShift c rn rd o) :=
  dataRegShiftWord_cond ..

theorem cmnImm (c : Cond) (rn rd : Reg) (o : RotImm) :
    Statement (.cmnImm c rn rd o) :=
  dataImmWord_cond ..

theorem cmnShift (c : Cond) (rn rd : Reg) (o : ShiftImm) :
    Statement (.cmnShift c rn rd o) :=
  dataShiftWord_cond ..

theorem cmnRegShift (c : Cond) (rn rd : Reg) (o : ShiftReg) :
    Statement (.cmnRegShift c rn rd o) :=
  dataRegShiftWord_cond ..

theorem orrImm (c : Cond) (sf : Bool) (rn rd : Reg) (o : RotImm) :
    Statement (.orrImm c sf rn rd o) :=
  dataImmWord_cond ..

theorem orrShift (c : Cond) (sf : Bool) (rn rd : Reg) (o : ShiftImm) :
    Statement (.orrShift c sf rn rd o) :=
  dataShiftWord_cond ..

theorem orrRegShift (c : Cond) (sf : Bool) (rn rd : Reg) (o : ShiftReg) :
    Statement (.orrRegShift c sf rn rd o) :=
  dataRegShiftWord_cond ..

theorem movImm (c : Cond) (sf : Bool) (rn rd : Reg) (o : RotImm) :
    Statement (.movImm c sf rn rd o) :=
  dataImmWord_cond ..

theorem movShift (c : Cond) (sf : Bool) (rn rd : Reg) (o : ShiftImm) :
    Statement (.movShift c sf rn rd o) :=
  dataShiftWord_cond ..

theorem movRegShift (c : Cond) (sf : Bool) (rn rd : Reg) (o : ShiftReg) :
    Statement (.movRegShift c sf rn rd o) :=
  dataRegShiftWord_cond ..

theorem bicImm (c : Cond) (sf : Bool) (rn rd : Reg) (o : RotImm) :
    Statement (.bicImm c sf rn rd o) :=
  dataImmWord_cond ..

theorem bicShift (c : Cond) (sf : Bool) (rn rd : Reg) (o : ShiftImm) :
    Statement (.bicShift c sf rn rd o) :=
  dataShiftWord_cond ..

theorem bicRegShift (c : Cond) (sf : Bool) (rn rd : Reg) (o : ShiftReg) :
    Statement (.bicRegShift c sf rn rd o) :=
  dataRegShiftWord_cond ..

theorem mvnImm (c : Cond) (sf : Bool) (rn rd : Reg) (o : RotImm) :
    Statement (.mvnImm c sf rn rd o) :=
  dataImmWord_cond ..

theorem mvnShift (c : Cond) (sf : Bool) (rn rd : Reg) (o : ShiftImm) :
    Statement (.mvnShift c sf rn rd o) :=
  dataShiftWord_cond ..

theorem mvnRegShift (c : Cond) (sf : Bool) (rn rd : Reg) (o : ShiftReg) :
    Statement (.mvnRegShift c sf rn rd o) :=
  dataRegShiftWord_cond ..

theorem undefined (c : Cond) (hi : BitVec 20) (lo : BitVec 4) :
    Statement (.undefined c hi lo) :=
  undefinedWord_cond ..

theorem ldrImmPre (c : Cond) (u w : Bool) (rn rd : Reg) (off : BitVec 12) :
    Statement (.ldrImmPre c u w rn rd off) :=
  sdtImmWord_cond ..

theorem ldrRegPre (c : Cond) (u w : Bool) (rn rd : Reg) (o : ShiftImm) :
    Statement (.ldrRegPre c u w rn rd o) :=
  sdtRegWord_cond ..

theorem ldrImmPost (c : Cond) (u : Bool) (rn rd : Reg) (off : BitVec 12) :
    Statement (.ldrImmPost c u rn rd off) :=
  sdtImmWord_cond ..

theorem ldrRegPost (c : Cond) (u : Bool) (rn rd : Reg) (o : ShiftImm) :
    Statement (.ldrRegPost c u rn rd o) :=
  sdtRegWord_cond ..

theorem ldrtImm (c : Cond) (u : Bool) (rn rd : Reg) (off : BitVec 12) :
    Statement (.ldrtImm c u rn rd off) :=
  sdtImmWord_cond ..

theorem ldrtReg (c : Cond) (u : Bool) (rn rd : Reg) (o : ShiftImm) :
    Statement (.ldrtReg c u rn rd o) :=
  sdtRegWord_cond ..

theorem ldrbImmPre (c : Cond) (u w : Bool) (rn rd : Reg) (off : BitVec 12) :
    Statement (.ldrbImmPre c u w rn rd off) :=
  sdtImmWord_cond ..

theorem ldrbRegPre (c : Cond) (u w : Bool) (rn rd : Reg) (o : ShiftImm) :
    Statement (.ldrbRegPre c u w rn rd o) :=
  sdtRegWord_cond ..

theorem ldrbImmPost (c : Cond) (u : Bool) (rn rd : Reg) (off : BitVec 12) :
    Statement (.ldrbImmPost c u rn rd off) :=
  sdtImmWord_cond ..

theorem ldrbRegPost (c : Cond) (u : Bool) (rn rd : Reg) (o : ShiftImm) :
    Statement (.ldrbRegPost c u rn rd o) :=
  sdtRegWord_cond ..

theorem ldrbtImm (c : Cond) (u : Bool) (rn rd : Reg) (off : BitVec 12) :
    Statement (.ldrbtImm c u rn rd off) :=
  sdtImmWord_cond ..

theorem ldrbtReg (c : Cond) (u : Bool) (rn rd : Reg) (o : ShiftImm) :
    Statement (.ldrbtReg c u rn rd o) :=
  sdtRegWord_cond ..

theorem strImmPre (c : Cond) (u w : Bool) (rn rd : Reg) (off : BitVec 12) :
    Statement (.strImmPre c u w rn rd off) :=
  sdtImmWord_cond ..

theorem strRegPre (c : Cond) (u w : Bool) (rn rd : Reg) (o : ShiftImm) :
    Statement (.strRegPre c u w rn rd o) :=
  sdtRegWord_cond ..

theorem strImmPost (c : Cond) (u : Bool) (rn rd : Reg) (off : BitVec 12) :
    Statement (.strImmPost c u rn rd off) :=
  sdtImmWord_cond ..

theorem strRegPost (c : Cond) (u : Bool) (rn rd : Reg) (o : ShiftImm) :
    Statement (.strRegPost c u rn rd o) :=
  sdtRegWord_cond ..

theorem strtImm (c : Cond) (u : Bool) (rn rd : Reg) (off : BitVec 12) :
    Statement (.strtImm c u rn rd off) :=
  sdtImmWord_cond ..

theorem strtReg (c : Cond) (u : Bool) (rn rd : Reg) (o : ShiftImm) :
    Statement (.strtReg c u rn rd o) :=
  sdtRegWord_cond ..

theorem strbImmPre (c : Cond) (u w : Bool) (rn rd : Reg) (off : BitVec 12) :
    Statement (.strbImmPre c u w rn rd off) :=
  sdtImmWord_cond ..

theorem strbRegPre (c : Cond) (u w : Bool) (rn rd : Reg) (o : ShiftImm) :
    Statement (.strbRegPre c u w rn rd o) :=
  sdtRegWord_cond ..

theorem strbImmPost (c : Cond) (u : Bool) (rn rd : Reg) (off : BitVec 12) :
    Statement (.strbImmPost c u rn rd off) :=
  sdtImmWord_cond ..

theorem strbRegPost (c : Cond) (u : Bool) (rn rd : Reg) (o : ShiftImm) :
    Statement (.strbRegPost c u rn rd o) :=
  sdtRegWord_cond ..

theorem strbtImm (c : Cond) (u : Bool) (rn rd : Reg) (off : BitVec 12) :
    Statement (.strbtImm c u rn rd off) :=
  sdtImmWord_cond ..

theorem strbtReg (c : Cond) (u : Bool) (rn rd : Reg) (o : ShiftImm) :
    Statement (.strbtReg c u rn rd o) :=
  sdtRegWord_cond ..

theorem ldmRestore (c : Cond) (p u w : Bool) (rn : Reg) (list : BitVec 16) :
    Statement (.ldmRestore c p u w rn list) :=
  blockWord_cond ..

theorem ldmUser (c : Cond) (p u w : Bool) (rn : Reg) (list : BitVec 16) :
    Statement (.ldmUser c p u w rn list) :=
  blockWord_cond ..

theorem stmUser (c : Cond) (p u w : Bool) (rn : Reg) (list : BitVec 16) :
    Statement (.stmUser c p u w rn list) :=
  blockWord_cond ..

theorem ldmda (c : Cond) (w : Bool) (rn : Reg) (list : BitVec 16) :
    Statement (.ldmda c w rn list) :=
  blockWord_cond ..

theorem ldmia (c : Cond) (w : Bool) (rn : Reg) (list : BitVec 16) :
    Statement (.ldmia c w rn list) :=
  blockWord_cond ..

theorem ldmdb (c : Cond) (w : Bool) (rn : Reg) (list : BitVec 16) :
    Statement (.ldmdb c w rn list) :=
  blockWord_cond ..

theorem ldmib (c : Cond) (w : Bool) (rn : Reg) (list : BitVec 16) :
    Statement (.ldmib c w rn list) :=
  blockWord_cond ..

theorem stmda (c : Cond) (w : Bool) (rn : Reg) (list : BitVec 16) :
    Statement (.stmda c w rn list) :=
  blockWord_cond ..

theorem stmia (c : Cond) (w : Bool) (rn : Reg) (list : BitVec 16) :
    Statement (.stmia c w rn list) :=
  blockWord_cond ..

theorem stmdb (c : Cond) (w : Bool) (rn : Reg) (list : BitVec 16) :
    Statement (.stmdb c w rn list) :=
  blockWord_cond ..

theorem stmib (c : Cond) (w : Bool) (rn : Reg) (list : BitVec 16) :
    Statement (.stmib c w rn list) :=
  blockWord_cond ..

theorem b (c : Cond) (off : BitVec 24) :
    Statement (.b c off) :=
  branchWord_cond ..

theorem bl (c : Cond) (off : BitVec 24) :
    Statement (.bl c off) :=
  branchWord_cond ..

theorem ldc (c : Cond) (p u n w : Bool) (rn crd cp : Reg) (off : BitVec 8) :
    Statement (.ldc c p u n w rn crd cp off) :=
  copTransferWord_cond ..

theorem stc (c : Cond) (p u n w : Bool) (rn crd cp : Reg) (off : BitVec 8) :
    Statement (.stc c p u n w rn crd cp off) :=
  copTransferWord_cond ..

theorem cdp (c : Cond) (opc : BitVec 4) (crn crd cp : Reg) (info : BitVec 3) (crm : Reg) :
    Statement (.cdp c opc crn crd cp info crm) :=
  copDataWord_cond ..

theorem mcr (c : Cond) (opc : BitVec 3) (crn rd cp : Reg) (info : BitVec 3) (crm : Reg) :
    Statement (.mcr c opc crn rd cp info crm) :=
  copRegisterWord_cond ..

theorem mrc (c : Cond) (opc : BitVec 3) (crn rd cp : Reg) (info : BitVec 3) (crm : Reg) :
    Statement (.mrc c opc crn rd cp info crm) :=
  copRegisterWord_cond ..

theorem swi (c : Cond) (comment : BitVec 24) :
    Statement (.swi c comment) :=
  swiWord_cond ..

end Sys2Proof.Laws.CondField
end

