-- ==== Sys2Proof/Machine/RunUntil.lean ====
section
/-! DEFINITION. A run of the machine under the user's exit convention (70_reset_and_hazards.md R605, decision D18): the
exit address and the step bound are parameters (notes/assumptions/36.md). -/

namespace Sys2Proof.Machine

/-- How a run ends, with the state it ends in: at the exit address, at the step bound, or at a state whose step stops. -/
inductive RunEnd where
  | exited (s : State)
  | bounded (s : State)
  | fault (r : Fault) (s : State)
  | refused (r : Refusal) (s : State)
  deriving DecidableEq, Repr

/-- Run until the PC is the named exit address, if one is named, or the bound on the number of steps is used up
(R605). The exit address is looked for before each step. -/
def runUntil (exit : Option Word) : Nat → State → RunEnd
  | 0, s => if exit = some s.pc then .exited s else .bounded s
  | n + 1, s =>
    if exit = some s.pc then .exited s
    else
      match step s with
      | .next t => runUntil exit n t
      | .fault r => .fault r s
      | .refused r => .refused r s

end Sys2Proof.Machine
end

