-- ==== Sys2Proof/Laws/RunUntil.lean ====
section
/-! SUPPORT. What a run under an exit convention can end in, said once, and the loop at which such a run ends. -/

namespace Sys2Proof.Machine

/-- `t` is reached from `s` by `n` steps, each answering a next state. -/
inductive StepsTo : Nat → State → State → Prop where
  | refl (s : State) : StepsTo 0 s s
  | head {n : Nat} {s u t : State} : step s = .next u → StepsTo n u t → StepsTo (n + 1) s t

/-- What a run means, by how it ended: within the bound, in a state that the steps reach. -/
def RunEnd.Means (exit : Option Word) (n : Nat) (s : State) : RunEnd → Prop
  | .exited t => exit = some t.pc ∧ ∃ k, k ≤ n ∧ StepsTo k s t
  | .bounded t => exit ≠ some t.pc ∧ StepsTo n s t
  | .fault r t => step t = .fault r ∧ exit ≠ some t.pc ∧ ∃ k, k < n ∧ StepsTo k s t
  | .refused r t => step t = .refused r ∧ exit ≠ some t.pc ∧ ∃ k, k < n ∧ StepsTo k s t

/-- A step before a run. -/
theorem RunEnd.Means.head {exit : Option Word} {n : Nat} {s u : State} {e : RunEnd} (h : step s = .next u)
    (hu : e.Means exit n u) : e.Means exit (n + 1) s := by
  cases e with
  | exited t => obtain ⟨hx, k, hk, hs⟩ := hu; exact ⟨hx, k + 1, by omega, .head h hs⟩
  | bounded t => exact ⟨hu.1, .head h hu.2⟩
  | fault r t => obtain ⟨h1, hx, k, hk, hs⟩ := hu; exact ⟨h1, hx, k + 1, by omega, .head h hs⟩
  | refused r t => obtain ⟨h1, hx, k, hk, hs⟩ := hu; exact ⟨h1, hx, k + 1, by omega, .head h hs⟩

/-- Every way a run can end (70_reset_and_hazards.md R605). -/
theorem runUntil_means (exit : Option Word) : ∀ (n : Nat) (s : State), (runUntil exit n s).Means exit n s := by
  intro n
  induction n with
  | zero =>
    intro s
    unfold runUntil
    split
    · next h => exact ⟨h, 0, by omega, .refl s⟩
    · next h => exact ⟨h, .refl s⟩
  | succ n ih =>
    intro s
    unfold runUntil
    split
    · next h => exact ⟨h, 0, by omega, .refl s⟩
    · next h =>
      split
      · next t e => exact (ih t).head e
      · next r e => exact ⟨e, h, 0, by omega, .refl s⟩
      · next r e => exact ⟨e, h, 0, by omega, .refl s⟩

/-- `B .`, 0xEAFFFFFE, leaves all state unchanged: it is a fixed point of `exec` (R605). -/
theorem exec_branch_to_itself (s : State) : exec (.b .al 0xFFFFFE#24) s = .next s := by
  have h : s.pc + 8#32 + branchOffset 0xFFFFFE#24 = s.pc := by
    rw [BitVec.add_assoc, show 8#32 + branchOffset 0xFFFFFE#24 = 0#32 by decide, BitVec.add_zero]
  show conditionally .al s (.next { s with pc := s.pc + 8#32 + branchOffset 0xFFFFFE#24 }) = .next s
  rw [conditionally_pass rfl, h]

end Sys2Proof.Machine
end

