-- ==== Sys2Proof/Tests/Slice0.lean ====
section
/-! SUPPORT. The model's own tests: ill-formed terms, words written out from the encoding tables, one-step tests whose
expected results are the vectors of 95_test_vectors.md section 2, and for every obligation with hypotheses a concrete
state and operands that meet them. -/

namespace Sys2Proof.Tests

open Sys2Proof.Machine

/-! ### The form of terms -/

/-- LDM with S = 1 and without R15 in its list is the user-bank form, not the restoring one (30_encoding.md R187). -/
theorem test_wf_ldmRestore_needs_r15 : (Instr.ldmRestore .al false true true 13#4 0x0010#16).wf = false := by decide

/-- LDM with S = 1 and R15 in its list is the restoring form, not the user-bank one (30_encoding.md R187). -/
theorem test_wf_ldmUser_excludes_r15 : (Instr.ldmUser .al false true false 13#4 0x8010#16).wf = false := by decide

/-! ### Words written out from the encodings (30_encoding.md R175 to R192) -/

/-- Data processing, immediate: Cond 001 OpCode S Rn Rd Rotate Imm (R175, R196). -/
theorem test_decode_data_imm :
    decode 0b0000_001_0000_0_0001_0010_0000_10100101#32 =
      .ok (.andImm .eq false 1#4 2#4 ⟨0#4, 0xA5#8⟩) ∧
    decode 0b0001_001_0001_1_0001_0010_0001_10100101#32 =
      .ok (.eorImm .ne true 1#4 2#4 ⟨1#4, 0xA5#8⟩) ∧
    decode 0b0010_001_0010_0_0001_0010_0010_10100101#32 =
      .ok (.subImm .cs false 1#4 2#4 ⟨2#4, 0xA5#8⟩) ∧
    decode 0b0011_001_0011_1_0001_0010_0011_10100101#32 =
      .ok (.rsbImm .cc true 1#4 2#4 ⟨3#4, 0xA5#8⟩) ∧
    decode 0b0100_001_0100_0_0001_0010_0100_10100101#32 =
      .ok (.addImm .mi false 1#4 2#4 ⟨4#4, 0xA5#8⟩) ∧
    decode 0b0101_001_0101_1_0001_0010_0101_10100101#32 =
      .ok (.adcImm .pl true 1#4 2#4 ⟨5#4, 0xA5#8⟩) ∧
    decode 0b0110_001_0110_0_0001_0010_0110_10100101#32 =
      .ok (.sbcImm .vs false 1#4 2#4 ⟨6#4, 0xA5#8⟩) ∧
    decode 0b0111_001_0111_1_0001_0010_0111_10100101#32 =
      .ok (.rscImm .vc true 1#4 2#4 ⟨7#4, 0xA5#8⟩) ∧
    decode 0b1000_001_1000_1_0001_0010_1000_10100101#32 =
      .ok (.tstImm .hi 1#4 2#4 ⟨8#4, 0xA5#8⟩) ∧
    decode 0b1001_001_1001_1_0001_0010_1001_10100101#32 =
      .ok (.teqImm .ls 1#4 2#4 ⟨9#4, 0xA5#8⟩) ∧
    decode 0b1010_001_1010_1_0001_0010_1010_10100101#32 =
      .ok (.cmpImm .ge 1#4 2#4 ⟨10#4, 0xA5#8⟩) ∧
    decode 0b1011_001_1011_1_0001_0010_1011_10100101#32 =
      .ok (.cmnImm .lt 1#4 2#4 ⟨11#4, 0xA5#8⟩) ∧
    decode 0b1100_001_1100_0_0001_0010_1100_10100101#32 =
      .ok (.orrImm .gt false 1#4 2#4 ⟨12#4, 0xA5#8⟩) ∧
    decode 0b1101_001_1101_1_0001_0010_1101_10100101#32 =
      .ok (.movImm .le true 1#4 2#4 ⟨13#4, 0xA5#8⟩) ∧
    decode 0b1110_001_1110_0_0001_0010_1110_10100101#32 =
      .ok (.bicImm .al false 1#4 2#4 ⟨14#4, 0xA5#8⟩) ∧
    decode 0b0000_001_1111_1_0001_0010_1111_10100101#32 =
      .ok (.mvnImm .eq true 1#4 2#4 ⟨15#4, 0xA5#8⟩) := by
  decide

/-- Data processing, register shifted by an amount: Cond 000 OpCode S Rn Rd Amount Type 0 Rm (R175, R195). -/
theorem test_decode_data_shift :
    decode 0b0000_000_0000_0_0001_0010_10011_00_0_0100#32 =
      .ok (.andShift .eq false 1#4 2#4 ⟨19#5, .lsl, 4#4⟩) ∧
    decode 0b0001_000_0001_1_0001_0010_10011_01_0_0100#32 =
      .ok (.eorShift .ne true 1#4 2#4 ⟨19#5, .lsr, 4#4⟩) ∧
    decode 0b0010_000_0010_0_0001_0010_10011_10_0_0100#32 =
      .ok (.subShift .cs false 1#4 2#4 ⟨19#5, .asr, 4#4⟩) ∧
    decode 0b0011_000_0011_1_0001_0010_10011_11_0_0100#32 =
      .ok (.rsbShift .cc true 1#4 2#4 ⟨19#5, .ror, 4#4⟩) ∧
    decode 0b0100_000_0100_0_0001_0010_10011_00_0_0100#32 =
      .ok (.addShift .mi false 1#4 2#4 ⟨19#5, .lsl, 4#4⟩) ∧
    decode 0b0101_000_0101_1_0001_0010_10011_01_0_0100#32 =
      .ok (.adcShift .pl true 1#4 2#4 ⟨19#5, .lsr, 4#4⟩) ∧
    decode 0b0110_000_0110_0_0001_0010_10011_10_0_0100#32 =
      .ok (.sbcShift .vs false 1#4 2#4 ⟨19#5, .asr, 4#4⟩) ∧
    decode 0b0111_000_0111_1_0001_0010_10011_11_0_0100#32 =
      .ok (.rscShift .vc true 1#4 2#4 ⟨19#5, .ror, 4#4⟩) ∧
    decode 0b1000_000_1000_1_0001_0010_10011_00_0_0100#32 =
      .ok (.tstShift .hi 1#4 2#4 ⟨19#5, .lsl, 4#4⟩) ∧
    decode 0b1001_000_1001_1_0001_0010_10011_01_0_0100#32 =
      .ok (.teqShift .ls 1#4 2#4 ⟨19#5, .lsr, 4#4⟩) ∧
    decode 0b1010_000_1010_1_0001_0010_10011_10_0_0100#32 =
      .ok (.cmpShift .ge 1#4 2#4 ⟨19#5, .asr, 4#4⟩) ∧
    decode 0b1011_000_1011_1_0001_0010_10011_11_0_0100#32 =
      .ok (.cmnShift .lt 1#4 2#4 ⟨19#5, .ror, 4#4⟩) ∧
    decode 0b1100_000_1100_0_0001_0010_10011_00_0_0100#32 =
      .ok (.orrShift .gt false 1#4 2#4 ⟨19#5, .lsl, 4#4⟩) ∧
    decode 0b1101_000_1101_1_0001_0010_10011_01_0_0100#32 =
      .ok (.movShift .le true 1#4 2#4 ⟨19#5, .lsr, 4#4⟩) ∧
    decode 0b1110_000_1110_0_0001_0010_10011_10_0_0100#32 =
      .ok (.bicShift .al false 1#4 2#4 ⟨19#5, .asr, 4#4⟩) ∧
    decode 0b0000_000_1111_1_0001_0010_10011_11_0_0100#32 =
      .ok (.mvnShift .eq true 1#4 2#4 ⟨19#5, .ror, 4#4⟩) := by
  decide

/-- Data processing, register shifted by a register: Cond 000 OpCode S Rn Rd Rs 0 Type 1 Rm (R175, R195). -/
theorem test_decode_data_regShift :
    decode 0b0000_000_0000_0_0001_0010_1011_0_00_1_0100#32 =
      .ok (.andRegShift .eq false 1#4 2#4 ⟨11#4, .lsl, 4#4⟩) ∧
    decode 0b0001_000_0001_1_0001_0010_1011_0_01_1_0100#32 =
      .ok (.eorRegShift .ne true 1#4 2#4 ⟨11#4, .lsr, 4#4⟩) ∧
    decode 0b0010_000_0010_0_0001_0010_1011_0_10_1_0100#32 =
      .ok (.subRegShift .cs false 1#4 2#4 ⟨11#4, .asr, 4#4⟩) ∧
    decode 0b0011_000_0011_1_0001_0010_1011_0_11_1_0100#32 =
      .ok (.rsbRegShift .cc true 1#4 2#4 ⟨11#4, .ror, 4#4⟩) ∧
    decode 0b0100_000_0100_0_0001_0010_1011_0_00_1_0100#32 =
      .ok (.addRegShift .mi false 1#4 2#4 ⟨11#4, .lsl, 4#4⟩) ∧
    decode 0b0101_000_0101_1_0001_0010_1011_0_01_1_0100#32 =
      .ok (.adcRegShift .pl true 1#4 2#4 ⟨11#4, .lsr, 4#4⟩) ∧
    decode 0b0110_000_0110_0_0001_0010_1011_0_10_1_0100#32 =
      .ok (.sbcRegShift .vs false 1#4 2#4 ⟨11#4, .asr, 4#4⟩) ∧
    decode 0b0111_000_0111_1_0001_0010_1011_0_11_1_0100#32 =
      .ok (.rscRegShift .vc true 1#4 2#4 ⟨11#4, .ror, 4#4⟩) ∧
    decode 0b1000_000_1000_1_0001_0010_1011_0_00_1_0100#32 =
      .ok (.tstRegShift .hi 1#4 2#4 ⟨11#4, .lsl, 4#4⟩) ∧
    decode 0b1001_000_1001_1_0001_0010_1011_0_01_1_0100#32 =
      .ok (.teqRegShift .ls 1#4 2#4 ⟨11#4, .lsr, 4#4⟩) ∧
    decode 0b1010_000_1010_1_0001_0010_1011_0_10_1_0100#32 =
      .ok (.cmpRegShift .ge 1#4 2#4 ⟨11#4, .asr, 4#4⟩) ∧
    decode 0b1011_000_1011_1_0001_0010_1011_0_11_1_0100#32 =
      .ok (.cmnRegShift .lt 1#4 2#4 ⟨11#4, .ror, 4#4⟩) ∧
    decode 0b1100_000_1100_0_0001_0010_1011_0_00_1_0100#32 =
      .ok (.orrRegShift .gt false 1#4 2#4 ⟨11#4, .lsl, 4#4⟩) ∧
    decode 0b1101_000_1101_1_0001_0010_1011_0_01_1_0100#32 =
      .ok (.movRegShift .le true 1#4 2#4 ⟨11#4, .lsr, 4#4⟩) ∧
    decode 0b1110_000_1110_0_0001_0010_1011_0_10_1_0100#32 =
      .ok (.bicRegShift .al false 1#4 2#4 ⟨11#4, .asr, 4#4⟩) ∧
    decode 0b0000_000_1111_1_0001_0010_1011_0_11_1_0100#32 =
      .ok (.mvnRegShift .eq true 1#4 2#4 ⟨11#4, .ror, 4#4⟩) := by
  decide

/-- BX, MRS, MSR (R176, R177, R178, R182). -/
theorem test_decode_psr_bx :
    decode 0b1110_000100101111111111110001_1101#32 =
      .ok (.bx .al 13#4) ∧
    decode 0b0001_00010_1_001111_0110_000000000000#32 =
      .ok (.mrs .ne true 6#4) ∧
    decode 0b1110_00010_1_1010011111_00000000_0111#32 =
      .ok (.msrReg .al true 7#4) ∧
    decode 0b1110_00010_0_1010001111_00000000_0111#32 =
      .ok (.msrFlagsReg .al false 7#4) ∧
    decode 0b1110_00110_1_1010001111_0101_11110000#32 =
      .ok (.msrFlagsImm .al true ⟨5#4, 0xF0#8⟩) := by
  decide

/-- MUL, MLA, the long multiplies, SWP, SWPB (R179, R180, R181). -/
theorem test_decode_multiply_swap :
    decode 0b1110_000000_0_1_0001_0010_0011_1001_0100#32 =
      .ok (.mul .al true 1#4 2#4 3#4 4#4) ∧
    decode 0b1110_000000_1_0_0001_0010_0011_1001_0100#32 =
      .ok (.mla .al false 1#4 2#4 3#4 4#4) ∧
    decode 0b1110_00001_0_0_1_0001_0010_0011_1001_0100#32 =
      .ok (.umull .al true 1#4 2#4 3#4 4#4) ∧
    decode 0b1110_00001_0_1_1_0001_0010_0011_1001_0100#32 =
      .ok (.umlal .al true 1#4 2#4 3#4 4#4) ∧
    decode 0b1110_00001_1_0_1_0001_0010_0011_1001_0100#32 =
      .ok (.smull .al true 1#4 2#4 3#4 4#4) ∧
    decode 0b1110_00001_1_1_1_0001_0010_0011_1001_0100#32 =
      .ok (.smlal .al true 1#4 2#4 3#4 4#4) ∧
    decode 0b1101_00010_0_00_0001_0010_0000_1001_0100#32 =
      .ok (.swp .le 1#4 2#4 4#4) ∧
    decode 0b1101_00010_1_00_0001_0010_0000_1001_0100#32 =
      .ok (.swpb .le 1#4 2#4 4#4) := by
  decide

/-- Halfword and signed transfers: Cond 000 P U I W L Rn Rd Hi 1 S H 1 Lo (R183, R184). -/
theorem test_decode_halfword :
    decode 0b1110_000_1_0_0_1_0_0001_0010_0000_1_0_1_1_0100#32 =
      .ok (.strhReg .al true false true 1#4 2#4 4#4) ∧
    decode 0b1110_000_0_1_1_0_0_0001_0010_1010_1_0_1_1_0101#32 =
      .ok (.strhImm .al false true false 1#4 2#4 0xA5#8) ∧
    decode 0b1110_000_1_0_0_1_1_0001_0010_0000_1_0_1_1_0100#32 =
      .ok (.ldrhReg .al true false true 1#4 2#4 4#4) ∧
    decode 0b1110_000_0_1_1_0_1_0001_0010_1010_1_0_1_1_0101#32 =
      .ok (.ldrhImm .al false true false 1#4 2#4 0xA5#8) ∧
    decode 0b1110_000_1_0_0_1_1_0001_0010_0000_1_1_0_1_0100#32 =
      .ok (.ldrsbReg .al true false true 1#4 2#4 4#4) ∧
    decode 0b1110_000_0_1_1_0_1_0001_0010_1010_1_1_0_1_0101#32 =
      .ok (.ldrsbImm .al false true false 1#4 2#4 0xA5#8) ∧
    decode 0b1110_000_1_0_0_1_1_0001_0010_0000_1_1_1_1_0100#32 =
      .ok (.ldrshReg .al true false true 1#4 2#4 4#4) ∧
    decode 0b1110_000_0_1_1_0_1_0001_0010_1010_1_1_1_1_0101#32 =
      .ok (.ldrshImm .al false true false 1#4 2#4 0xA5#8) := by
  decide

/-- Single transfers: Cond 01 I P U B W L Rn Rd Offset (R185); with P = 0, W = 1 the T forms (R360). -/
theorem test_decode_single :
    decode 0b1110_010_1_0_0_1_1_0001_0010_101001011100#32 =
      .ok (.ldrImmPre .al false true 1#4 2#4 0xA5C#12) ∧
    decode 0b1110_010_0_1_0_0_1_0001_0010_101001011100#32 =
      .ok (.ldrImmPost .al true 1#4 2#4 0xA5C#12) ∧
    decode 0b1110_010_0_1_0_1_1_0001_0010_101001011100#32 =
      .ok (.ldrtImm .al true 1#4 2#4 0xA5C#12) ∧
    decode 0b1110_011_1_1_0_0_1_0001_0010_10011_10_0_0100#32 =
      .ok (.ldrRegPre .al true false 1#4 2#4 ⟨19#5, .asr, 4#4⟩) ∧
    decode 0b1110_011_0_0_0_0_1_0001_0010_10011_10_0_0100#32 =
      .ok (.ldrRegPost .al false 1#4 2#4 ⟨19#5, .asr, 4#4⟩) ∧
    decode 0b1110_011_0_0_0_1_1_0001_0010_10011_10_0_0100#32 =
      .ok (.ldrtReg .al false 1#4 2#4 ⟨19#5, .asr, 4#4⟩) ∧
    decode 0b1110_010_1_0_1_1_1_0001_0010_101001011100#32 =
      .ok (.ldrbImmPre .al false true 1#4 2#4 0xA5C#12) ∧
    decode 0b1110_010_0_1_1_0_1_0001_0010_101001011100#32 =
      .ok (.ldrbImmPost .al true 1#4 2#4 0xA5C#12) ∧
    decode 0b1110_010_0_1_1_1_1_0001_0010_101001011100#32 =
      .ok (.ldrbtImm .al true 1#4 2#4 0xA5C#12) ∧
    decode 0b1110_011_1_1_1_0_1_0001_0010_10011_10_0_0100#32 =
      .ok (.ldrbRegPre .al true false 1#4 2#4 ⟨19#5, .asr, 4#4⟩) ∧
    decode 0b1110_011_0_0_1_0_1_0001_0010_10011_10_0_0100#32 =
      .ok (.ldrbRegPost .al false 1#4 2#4 ⟨19#5, .asr, 4#4⟩) ∧
    decode 0b1110_011_0_0_1_1_1_0001_0010_10011_10_0_0100#32 =
      .ok (.ldrbtReg .al false 1#4 2#4 ⟨19#5, .asr, 4#4⟩) ∧
    decode 0b1110_010_1_0_0_1_0_0001_0010_101001011100#32 =
      .ok (.strImmPre .al false true 1#4 2#4 0xA5C#12) ∧
    decode 0b1110_010_0_1_0_0_0_0001_0010_101001011100#32 =
      .ok (.strImmPost .al true 1#4 2#4 0xA5C#12) ∧
    decode 0b1110_010_0_1_0_1_0_0001_0010_101001011100#32 =
      .ok (.strtImm .al true 1#4 2#4 0xA5C#12) ∧
    decode 0b1110_011_1_1_0_0_0_0001_0010_10011_10_0_0100#32 =
      .ok (.strRegPre .al true false 1#4 2#4 ⟨19#5, .asr, 4#4⟩) ∧
    decode 0b1110_011_0_0_0_0_0_0001_0010_10011_10_0_0100#32 =
      .ok (.strRegPost .al false 1#4 2#4 ⟨19#5, .asr, 4#4⟩) ∧
    decode 0b1110_011_0_0_0_1_0_0001_0010_10011_10_0_0100#32 =
      .ok (.strtReg .al false 1#4 2#4 ⟨19#5, .asr, 4#4⟩) ∧
    decode 0b1110_010_1_0_1_1_0_0001_0010_101001011100#32 =
      .ok (.strbImmPre .al false true 1#4 2#4 0xA5C#12) ∧
    decode 0b1110_010_0_1_1_0_0_0001_0010_101001011100#32 =
      .ok (.strbImmPost .al true 1#4 2#4 0xA5C#12) ∧
    decode 0b1110_010_0_1_1_1_0_0001_0010_101001011100#32 =
      .ok (.strbtImm .al true 1#4 2#4 0xA5C#12) ∧
    decode 0b1110_011_1_1_1_0_0_0001_0010_10011_10_0_0100#32 =
      .ok (.strbRegPre .al true false 1#4 2#4 ⟨19#5, .asr, 4#4⟩) ∧
    decode 0b1110_011_0_0_1_0_0_0001_0010_10011_10_0_0100#32 =
      .ok (.strbRegPost .al false 1#4 2#4 ⟨19#5, .asr, 4#4⟩) ∧
    decode 0b1110_011_0_0_1_1_0_0001_0010_10011_10_0_0100#32 =
      .ok (.strbtReg .al false 1#4 2#4 ⟨19#5, .asr, 4#4⟩) := by
  decide

/-- Block transfers: Cond 100 P U S W L Rn list (R187, R213). -/
theorem test_decode_block :
    decode 0b1110_100_0_0_0_1_1_1101_1000000000001111#32 =
      .ok (.ldmda .al true 13#4 0x800F#16) ∧
    decode 0b1110_100_0_1_0_1_1_1101_1000000000001111#32 =
      .ok (.ldmia .al true 13#4 0x800F#16) ∧
    decode 0b1110_100_1_0_0_1_1_1101_1000000000001111#32 =
      .ok (.ldmdb .al true 13#4 0x800F#16) ∧
    decode 0b1110_100_1_1_0_1_1_1101_1000000000001111#32 =
      .ok (.ldmib .al true 13#4 0x800F#16) ∧
    decode 0b1110_100_0_0_0_1_0_1101_1000000000001111#32 =
      .ok (.stmda .al true 13#4 0x800F#16) ∧
    decode 0b1110_100_0_1_0_1_0_1101_1000000000001111#32 =
      .ok (.stmia .al true 13#4 0x800F#16) ∧
    decode 0b1110_100_1_0_0_1_0_1101_1000000000001111#32 =
      .ok (.stmdb .al true 13#4 0x800F#16) ∧
    decode 0b1110_100_1_1_0_1_0_1101_1000000000001111#32 =
      .ok (.stmib .al true 13#4 0x800F#16) ∧
    decode 0b1110_100_0_1_1_1_1_1101_1000000000000111#32 =
      .ok (.ldmRestore .al false true true 13#4 0x8007#16) ∧
    decode 0b1110_100_1_0_1_0_1_1101_0111111111111111#32 =
      .ok (.ldmUser .al true false false 13#4 0x7FFF#16) ∧
    decode 0b1110_100_1_0_1_0_0_1101_1111111111111111#32 =
      .ok (.stmUser .al true false false 13#4 0xFFFF#16) := by
  decide

/-- B, BL, SWI, UNDEFINED and the coprocessor words (R186, R188 to R192). -/
theorem test_decode_branch_trap :
    decode 0b0000_101_0_100000000000000000000001#32 =
      .ok (.b .eq 0x800001#24) ∧
    decode 0b1110_101_1_000000000000000000000010#32 =
      .ok (.bl .al 2#24) ∧
    decode 0b1110_1111_000100100011010001010110#32 =
      .ok (.swi .al 0x123456#24) ∧
    decode 0b1110_011_10000000000000000001_1_0010#32 =
      .ok (.undefined .al 0x80001#20 2#4) ∧
    decode 0b1110_110_1_0_1_0_1_0001_0010_0011_10100101#32 =
      .ok (.ldc .al true false true false 1#4 2#4 3#4 0xA5#8) ∧
    decode 0b1110_110_0_1_0_1_0_0001_0010_0011_10100101#32 =
      .ok (.stc .al false true false true 1#4 2#4 3#4 0xA5#8) ∧
    decode 0b1110_1110_1001_0001_0010_0011_101_0_0100#32 =
      .ok (.cdp .al 9#4 1#4 2#4 3#4 5#3 4#4) ∧
    decode 0b1110_1110_101_0_0001_0010_0011_110_1_0100#32 =
      .ok (.mcr .al 5#3 1#4 2#4 3#4 6#3 4#4) ∧
    decode 0b1110_1110_101_1_0001_0010_0011_110_1_0100#32 =
      .ok (.mrc .al 5#3 1#4 2#4 3#4 6#3 4#4) := by
  decide

/-- The numbering of `decodeTableWord`: bit 0 is the least significant bit of the one word (opcode_table.json). -/
theorem test_decodeTableWord_branch : decodeTableWord 32 0xEAFFFFFE = some (.b .al 0xFFFFFE#24) := by decide

/-! ### One step

Each state is small: User or another mode at 0x1000, the named registers of the current mode, all else as after reset. -/

/-- The state after reset with a CPSR, a PC and registers of the current mode. -/
def at_ (cpsr pc : Word) (l : List (Reg × Word)) : State :=
  l.foldl (fun s p => s.setReg p.1 p.2) { State.reset with cpsr := PSR.ofWord cpsr, pc := pc }

/-- A state with words of ordinary memory. -/
def withWords (l : List (Word × Word)) (s : State) : State :=
  l.foldl (fun s p => s.writeMem .word p.1 p.2) s

/-- A state in big endian order. -/
def big (s : State) : State := { s with bigend := true }

/-- What a next state satisfies. -/
def after (o : Outcome) (f : State → Bool) : Bool :=
  match o with
  | .next t => f t
  | .fault _ => false
  | .refused _ => false

/-- Whether the outcome is one named refusal. -/
def refusedAs (o : Outcome) (r : Refusal) : Bool :=
  match o with
  | .next _ => false
  | .fault _ => false
  | .refused r' => r' == r

/-- A register of the current mode. -/
def reg (s : State) (i : Reg) : Word := s.readReg 0#32 i

/-- The CPSR as a word with zeros in bits 27:8. -/
def psr (s : State) : Word := s.cpsr.toWord 0#20

/-- A word of memory. -/
def word (s : State) (a : Word) : Word := s.readMem .word a

/-- 95 §2.4: ADDS of 0x7FFFFFFF and 1. -/
theorem test_adds_overflows :
    after (runWord 0xE0910002#32 (at_ 0x00000010#32 0x1000#32 [(1#4, 0x7FFFFFFF#32), (2#4, 1#32)])) (fun s => reg s 0#4 == 0x80000000#32 && psr s == 0x90000010#32 && s.pc == 0x1004#32) = true := by decide

/-- 95 §2.4: ADDS of 0xFFFFFFFF and 1. -/
theorem test_adds_carries :
    after (runWord 0xE0910002#32 (at_ 0x00000010#32 0x1000#32 [(1#4, 0xFFFFFFFF#32), (2#4, 1#32)])) (fun s => reg s 0#4 == 0#32 && psr s == 0x60000010#32) = true := by decide

/-- 95 §1.3: SUB R4,R5,R7,LSR R2, by the bottom byte of R2. -/
theorem test_sub_keeps_flags :
    after (runWord 0xE0454237#32 (at_ 0xF0000010#32 0x1000#32 [(5#4, 0x100#32), (7#4, 0x80#32), (2#4, 0x304#32)])) (fun s => reg s 4#4 == 0xF8#32 && psr s == 0xF0000010#32) = true := by decide

/-- 95 §2.4: SUBS of 0x80000000 and 1. -/
theorem test_subs_no_borrow :
    after (runWord 0xE0510002#32 (at_ 0x00000010#32 0x1000#32 [(1#4, 0x80000000#32), (2#4, 1#32)])) (fun s => reg s 0#4 == 0x7FFFFFFF#32 && psr s == 0x30000010#32) = true := by decide

/-- 95 §2.4: RSBS of 1 from 0. -/
theorem test_rsbs_borrows :
    after (runWord 0xE0710002#32 (at_ 0x00000010#32 0x1000#32 [(1#4, 1#32), (2#4, 0#32)])) (fun s => reg s 0#4 == 0xFFFFFFFF#32 && psr s == 0x80000010#32) = true := by decide

/-- 95 §2.4: ADCS of 0xFFFFFFFF and 0 with C = 1. -/
theorem test_adcs_uses_carry :
    after (runWord 0xE0B10002#32 (at_ 0x20000010#32 0x1000#32 [(1#4, 0xFFFFFFFF#32)])) (fun s => reg s 0#4 == 0#32 && psr s == 0x60000010#32) = true := by decide

/-- 95 §2.4: SBCS of 0x80000000 and 0 with C = 0. -/
theorem test_sbcs_uses_carry :
    after (runWord 0xE0D10002#32 (at_ 0x00000010#32 0x1000#32 [(1#4, 0x80000000#32)])) (fun s => reg s 0#4 == 0x7FFFFFFF#32 && psr s == 0x30000010#32) = true := by decide

/-- 95 §2.4: RSCS of 1 from 0 with C = 0. -/
theorem test_rscs_uses_carry :
    after (runWord 0xE0F10002#32 (at_ 0x00000010#32 0x1000#32 [(1#4, 1#32)])) (fun s => reg s 0#4 == 0xFFFFFFFE#32 && psr s == 0x80000010#32) = true := by decide

/-- 95 §2.5: CMP of 5 and 5. -/
theorem test_cmp_equal :
    after (runWord 0xE1510002#32 (at_ 0x10000010#32 0x1000#32 [(1#4, 5#32), (2#4, 5#32)])) (fun s => reg s 0#4 == 0#32 && psr s == 0x60000010#32) = true := by decide

/-- 95 §2.5: CMN of 0x7FFFFFFF and 1. -/
theorem test_cmn_overflows :
    after (runWord 0xE1710002#32 (at_ 0x10000010#32 0x1000#32 [(1#4, 0x7FFFFFFF#32), (2#4, 1#32)])) (fun s => psr s == 0x90000010#32) = true := by decide

/-- 95 §2.5: TST of 0xF0 and 0x0F. -/
theorem test_tst_keeps_c_v :
    after (runWord 0xE1110002#32 (at_ 0x10000010#32 0x1000#32 [(1#4, 0xF0#32), (2#4, 0x0F#32)])) (fun s => psr s == 0x50000010#32) = true := by decide

/-- 95 §2.5: TEQ of 0x80000000 and 0. -/
theorem test_teq_negative :
    after (runWord 0xE1310002#32 (at_ 0x10000010#32 0x1000#32 [(1#4, 0x80000000#32)])) (fun s => psr s == 0x90000010#32) = true := by decide

/-- 95 §2.5: ANDS with 0x80000000. -/
theorem test_ands_rotated_immediate :
    after (runWord 0xE2110102#32 (at_ 0x00000010#32 0x1000#32 [(1#4, 0xFFFFFFFF#32)])) (fun s => reg s 0#4 == 0x80000000#32 && psr s == 0xA0000010#32) = true := by decide

/-- 95 §2.5: ORRS with 0. -/
theorem test_orrs_keeps_carry :
    after (runWord 0xE3910000#32 (at_ 0x30000010#32 0x1000#32 [])) (fun s => reg s 0#4 == 0#32 && psr s == 0x70000010#32) = true := by decide

/-- 95 §2.5: EORS R3,R3,R3. -/
theorem test_eors_same_register :
    after (runWord 0xE0333003#32 (at_ 0x30000010#32 0x1000#32 [(3#4, 0x12345678#32)])) (fun s => reg s 3#4 == 0#32 && psr s == 0x70000010#32) = true := by decide

/-- 95 §2.5: BICS with 0xFF000000. -/
theorem test_bics_rotated_immediate :
    after (runWord 0xE3D104FF#32 (at_ 0x00000010#32 0x1000#32 [(1#4, 0xFFFFFFFF#32)])) (fun s => reg s 0#4 == 0x00FFFFFF#32 && psr s == 0x20000010#32) = true := by decide

/-- 95 §2.5: MVNS of 0. -/
theorem test_mvns_zero :
    after (runWord 0xE3F00000#32 (at_ 0x20000010#32 0x1000#32 [])) (fun s => reg s 0#4 == 0xFFFFFFFF#32 && psr s == 0xA0000010#32) = true := by decide

/-- 95 §2.2: LSR #32 is field 0. -/
theorem test_movs_lsr_32 :
    after (runWord 0xE1B00021#32 (at_ 0x00000010#32 0x1000#32 [(1#4, 0x80000001#32)])) (fun s => reg s 0#4 == 0#32 && psr s == 0x60000010#32) = true := by decide

/-- 95 §2.2: RRX with C = 1. -/
theorem test_movs_rrx :
    after (runWord 0xE1B00061#32 (at_ 0x20000010#32 0x1000#32 [(1#4, 0x80000001#32)])) (fun s => reg s 0#4 == 0xC0000000#32 && psr s == 0xA0000010#32) = true := by decide

/-- 95 §2.3: ASR by 33. -/
theorem test_movs_asr_register_33 :
    after (runWord 0xE1B00251#32 (at_ 0x00000010#32 0x1000#32 [(1#4, 0x80000001#32), (2#4, 33#32)])) (fun s => reg s 0#4 == 0xFFFFFFFF#32 && psr s == 0xA0000010#32) = true := by decide

/-- 95 §2.3: ROR by 32. -/
theorem test_movs_ror_register_32 :
    after (runWord 0xE1B00271#32 (at_ 0x00000010#32 0x1000#32 [(1#4, 0x80000001#32), (2#4, 32#32)])) (fun s => reg s 0#4 == 0x80000001#32 && psr s == 0xA0000010#32) = true := by decide

/-- 95 §2.6: ADD R0,PC,R1,LSL R2. -/
theorem test_add_pc_plus_12 :
    after (runWord 0xE08F0211#32 (at_ 0x00000010#32 0x1000#32 [(1#4, 1#32), (2#4, 4#32)])) (fun s => reg s 0#4 == 0x101C#32) = true := by decide

/-- 95 §2.6: SUB PC,PC,#4. -/
theorem test_sub_into_pc :
    after (runWord 0xE24FF004#32 (at_ 0x00000010#32 0x1000#32 [])) (fun s => s.pc == 0x1004#32) = true := by decide

/-- 95 §2.6: MOV PC,R14 of an unaligned address. -/
theorem test_mov_pc_unaligned :
    refusedAs (runWord 0xE1A0F00E#32 (at_ 0x00000010#32 0x1000#32 [(14#4, 0x2002#32)])) .unalignedPc = true := by decide

/-- 95 §2.6: MOVS PC,R14 in User mode. -/
theorem test_movs_pc_user :
    refusedAs (runWord 0xE1B0F00E#32 (at_ 0x00000010#32 0x1000#32 [])) .noSpsr = true := by decide

/-- 95 §2.5: TEQP R0,#0. -/
theorem test_teqp :
    refusedAs (runWord 0xE330F000#32 (at_ 0x00000010#32 0x1000#32 [])) .teqpForm = true := by decide

/-- 95 §2.6: SUBS PC,R14,#4 in IRQ mode. -/
theorem test_subs_pc_returns :
    after (runWord 0xE25EF004#32
      { at_ 0x00000092#32 0x1000#32 [(14#4, 0x5008#32)] with spsrIrq := PSR.ofWord 0x2000001F#32 })
      (fun s => s.pc == 0x5004#32 && psr s == 0x2000001F#32) = true := by decide

/-- 95 §2.12: SWINE with Z = 1. -/
theorem test_failed_condition_advances :
    after (runWord 0x1F000000#32 (at_ 0x40000010#32 0x1000#32 [])) (fun s => s.pc == 0x1004#32 && psr s == 0x40000010#32) = true := by decide

/-- 95 §2.13: B below zero. -/
theorem test_b_wraps_below_zero :
    after (runWord 0xEAFFFFFD#32 (at_ 0x00000010#32 0#32 [])) (fun s => s.pc == 0xFFFFFFFC#32) = true := by decide

/-- 95 §2.13: BL +0x100 in IRQ mode. -/
theorem test_bl_links :
    after (runWord 0xEB00003E#32 (at_ 0x00000092#32 0x1000#32 [])) (fun s => s.pc == 0x1100#32 && s.gpr .r14irq == 0x1004#32 && s.gpr .r14 == 0#32) = true := by decide

/-- 95 §2.13: BX R0 with bit 0 set. -/
theorem test_bx_to_thumb :
    after (runWord 0xE12FFF10#32 (at_ 0x00000010#32 0x1000#32 [(0#4, 0x2003#32)])) (fun s => s.pc == 0x2002#32 && s.cpsr.t) = true := by decide

/-- 95 §2.13: BX R15. -/
theorem test_bx_r15 :
    refusedAs (runWord 0xE12FFF1F#32 (at_ 0x00000010#32 0x1000#32 [])) .bxR15 = true := by decide

/-- 95 §2.7: MSR CPSR,R0 in User mode. -/
theorem test_msr_user_flags_only :
    after (runWord 0xE129F000#32 (at_ 0x00000010#32 0x1000#32 [(0#4, 0xF00000DF#32)])) (fun s => psr s == 0xF0000010#32) = true := by decide

/-- 95 §2.7: MSR CPSR,R0 in Supervisor mode. -/
theorem test_msr_changes_mode :
    after (runWord 0xE129F000#32 (at_ 0x000000D3#32 0x1000#32 [(0#4, 0xF000001F#32)])) (fun s => psr s == 0xF000001F#32) = true := by decide

/-- 95 §2.7: MSR that would change T. -/
theorem test_msr_t_bit :
    refusedAs (runWord 0xE129F000#32 (at_ 0x000000D3#32 0x1000#32 [(0#4, 0x33#32)])) .tBitChange = true := by decide

/-- 95 §2.7: MSR CPSR_flg,R0. -/
theorem test_msr_flags_register :
    after (runWord 0xE128F000#32 (at_ 0x800000D3#32 0x1000#32 [(0#4, 0x5000001F#32)])) (fun s => psr s == 0x500000D3#32) = true := by decide

/-- 95 §2.7: MSR CPSR_flg,#0xA0000000. -/
theorem test_msr_flags_immediate :
    after (runWord 0xE328F20A#32 (at_ 0x50000010#32 0x1000#32 [])) (fun s => psr s == 0xA0000010#32) = true := by decide

/-- 95 §2.7: MRS R0,SPSR in User mode. -/
theorem test_mrs_spsr_user :
    refusedAs (runWord 0xE14F0000#32 (at_ 0x00000010#32 0x1000#32 [])) .noSpsr = true := by decide

/-- 95 §1.5: -10 times 20. -/
theorem test_mul :
    after (runWord 0xE0000291#32 (at_ 0x00000010#32 0x1000#32 [(1#4, 0xFFFFFFF6#32), (2#4, 0x14#32)])) (fun s => reg s 0#4 == 0xFFFFFF38#32 && psr s == 0x00000010#32) = true := by decide

/-- 95 §2.8: MUL with Rd = Rm. -/
theorem test_mul_rd_rm :
    refusedAs (runWord 0xE0010291#32 (at_ 0x00000010#32 0x1000#32 [])) .multiplyRdRm = true := by decide

/-- 95 §2.8: 7 times 6 minus 1. -/
theorem test_mla :
    after (runWord 0xE0203291#32 (at_ 0x00000010#32 0x1000#32 [(1#4, 7#32), (2#4, 6#32), (3#4, 0xFFFFFFFF#32)])) (fun s => reg s 0#4 == 0x29#32) = true := by decide

/-- 95 §2.8. -/
theorem test_umull :
    after (runWord 0xE0810392#32 (at_ 0x00000010#32 0x1000#32 [(0#4, 0xFFFFFFFF#32), (2#4, 0x12345678#32), (3#4, 0x9ABCDEF0#32)])) (fun s => reg s 1#4 == 0x0B00EA4E#32 && reg s 0#4 == 0x242D2080#32) = true := by decide

/-- 95 §2.8. -/
theorem test_smull :
    after (runWord 0xE0C10392#32 (at_ 0x00000010#32 0x1000#32 [(0#4, 0xFFFFFFFF#32), (2#4, 0x12345678#32), (3#4, 0x9ABCDEF0#32)])) (fun s => reg s 1#4 == 0xF8CC93D6#32 && reg s 0#4 == 0x242D2080#32) = true := by decide

/-- 95 §2.8. -/
theorem test_umlal :
    after (runWord 0xE0A10392#32 (at_ 0x00000010#32 0x1000#32 [(0#4, 0xFFFFFFFF#32), (2#4, 0x12345678#32), (3#4, 0x9ABCDEF0#32)])) (fun s => reg s 1#4 == 0x0B00EA4F#32 && reg s 0#4 == 0x242D207F#32) = true := by decide

/-- 95 §2.8. -/
theorem test_smlal :
    after (runWord 0xE0E10392#32 (at_ 0x00000010#32 0x1000#32 [(0#4, 0xFFFFFFFF#32), (2#4, 0x12345678#32), (3#4, 0x9ABCDEF0#32)])) (fun s => reg s 1#4 == 0xF8CC93D7#32 && reg s 0#4 == 0x242D207F#32) = true := by decide

/-- 95 §2.9: LDR at byte offset 1. -/
theorem test_ldr_rotates :
    after (runWord 0xE5910001#32 (withWords [(0x2000#32, 0x44332211#32), (0x2004#32, 0x88776655#32)] (at_ 0x00000010#32 0x1000#32 [(1#4, 0x2000#32)]))) (fun s => reg s 0#4 == 0x11443322#32) = true := by decide

/-- 95 §2.9: the same, big endian. -/
theorem test_ldr_rotates_big :
    after (runWord 0xE5910001#32 (withWords [(0x2000#32, 0x11223344#32), (0x2004#32, 0x55667788#32)] (big (at_ 0x00000010#32 0x1000#32 [(1#4, 0x2000#32)])))) (fun s => reg s 0#4 == 0x44112233#32) = true := by decide

/-- 95 §2.9: LDRB at offset 3. -/
theorem test_ldrb :
    after (runWord 0xE5D10003#32 (withWords [(0x2000#32, 0x44332211#32), (0x2004#32, 0x88776655#32)] (at_ 0x00000010#32 0x1000#32 [(1#4, 0x2000#32)]))) (fun s => reg s 0#4 == 0x44#32) = true := by decide

/-- 95 §2.9: LDRH at offset 6, big endian. -/
theorem test_ldrh_big :
    after (runWord 0xE1D100B6#32 (withWords [(0x2000#32, 0x11223344#32), (0x2004#32, 0x55667788#32)] (big (at_ 0x00000010#32 0x1000#32 [(1#4, 0x2000#32)])))) (fun s => reg s 0#4 == 0x7788#32) = true := by decide

/-- 95 §2.9: LDRSH at offset 6. -/
theorem test_ldrsh :
    after (runWord 0xE1D100F6#32 (withWords [(0x2000#32, 0x44332211#32), (0x2004#32, 0x88776655#32)] (at_ 0x00000010#32 0x1000#32 [(1#4, 0x2000#32)]))) (fun s => reg s 0#4 == 0xFFFF8877#32) = true := by decide

/-- 95 §2.9: LDRSB at offset 7. -/
theorem test_ldrsb :
    after (runWord 0xE1D100D7#32 (withWords [(0x2000#32, 0x44332211#32), (0x2004#32, 0x88776655#32)] (at_ 0x00000010#32 0x1000#32 [(1#4, 0x2000#32)]))) (fun s => reg s 0#4 == 0xFFFFFF88#32) = true := by decide

/-- 95 §2.10: STR at byte offset 2. -/
theorem test_str_align :
    after (runWord 0xE5810002#32 (at_ 0x00000010#32 0x1000#32 [(0#4, 0xAABBCCDD#32), (1#4, 0x3000#32)])) (fun s => word s 0x3000#32 == 0xAABBCCDD#32) = true := by decide

/-- 95 §2.10: STRB at offset 1. -/
theorem test_strb :
    after (runWord 0xE5C10001#32 (at_ 0x00000010#32 0x1000#32 [(0#4, 0xAABBCCDD#32), (1#4, 0x3000#32)])) (fun s => word s 0x3000#32 == 0x0000DD00#32) = true := by decide

/-- 95 §2.10: STRH at offset 2, big endian. -/
theorem test_strh_big :
    after (runWord 0xE1C100B2#32 (big (at_ 0x00000010#32 0x1000#32 [(0#4, 0xAABBCCDD#32), (1#4, 0x3000#32)]))) (fun s => word s 0x3000#32 == 0x0000CCDD#32) = true := by decide

/-- 95 §2.10: STRH at an odd address. -/
theorem test_strh_odd :
    refusedAs (runWord 0xE1C100B1#32 (at_ 0x00000010#32 0x1000#32 [(1#4, 0x3000#32)])) .strhOdd = true := by decide

/-- 95 §2.10: STR PC,[R1]. -/
theorem test_str_pc :
    after (runWord 0xE581F000#32 (at_ 0x00000010#32 0x1000#32 [(1#4, 0x3000#32)])) (fun s => word s 0x3000#32 == 0x100C#32) = true := by decide

/-- 95 §2.10: LDR R0,[R1,#-4]!. -/
theorem test_ldr_pre_writeback :
    after (runWord 0xE5310004#32 (withWords [(0x2000#32, 0xA0#32), (0x2004#32, 0xA4#32), (0x2008#32, 0xA8#32), (0x200C#32, 0xAC#32)] (at_ 0x00000010#32 0x1000#32 [(1#4, 0x2004#32), (2#4, 2#32)]))) (fun s => reg s 0#4 == 0xA0#32 && reg s 1#4 == 0x2000#32) = true := by decide

/-- 95 §2.10: LDR R0,[R1],-R2. -/
theorem test_ldr_post_register :
    after (runWord 0xE6110002#32 (withWords [(0x2000#32, 0xA0#32), (0x2004#32, 0xA4#32), (0x2008#32, 0xA8#32), (0x200C#32, 0xAC#32)] (at_ 0x00000010#32 0x1000#32 [(1#4, 0x2004#32), (2#4, 2#32)]))) (fun s => reg s 0#4 == 0xA4#32 && reg s 1#4 == 0x2002#32) = true := by decide

/-- 95 §2.10: LDR R0,[R1,R2,ASR #1]!. -/
theorem test_ldr_shifted_offset :
    after (runWord 0xE7B100C2#32 (withWords [(0x2000#32, 0xA0#32), (0x2004#32, 0xA4#32), (0x2008#32, 0xA8#32), (0x200C#32, 0xAC#32)] (at_ 0x00000010#32 0x1000#32 [(1#4, 0x2004#32), (2#4, 2#32)]))) (fun s => reg s 0#4 == 0xA4000000#32 && reg s 1#4 == 0x2005#32) = true := by decide

/-- 95 §2.10: LDRT R0,[R1],#4. -/
theorem test_ldrt_post :
    after (runWord 0xE4B10004#32 (withWords [(0x2000#32, 0xA0#32), (0x2004#32, 0xA4#32), (0x2008#32, 0xA8#32), (0x200C#32, 0xAC#32)] (at_ 0x00000010#32 0x1000#32 [(1#4, 0x2004#32)]))) (fun s => reg s 0#4 == 0xA4#32 && reg s 1#4 == 0x2008#32) = true := by decide

/-- 95 §2.10: LDR PC,[R1]. -/
theorem test_ldr_pc :
    after (runWord 0xE591F000#32 (withWords [(0x3000#32, 0x4000#32)] (at_ 0x00000010#32 0x1000#32 [(1#4, 0x3000#32)]))) (fun s => s.pc == 0x4000#32) = true := by decide

/-- 95 §2.10: LDR R0,[R1],R1. -/
theorem test_ldr_post_rm_rn :
    refusedAs (runWord 0xE6910001#32 (at_ 0x00000010#32 0x1000#32 [])) .postIndexedRmRn = true := by decide

/-- 95 §2.10: LDR R1,[R1],#4. -/
theorem test_ldr_writeback_rd_rn :
    refusedAs (runWord 0xE4911004#32 (at_ 0x00000010#32 0x1000#32 [])) .writeBackRdRn = true := by decide

/-- 95 §2.10: a data abort with write-back. -/
theorem test_ldr_data_abort :
    after (runWord 0xE5B10004#32
      { at_ 0x20000010#32 0x4000#32 [(0#4, 5#32), (1#4, 0x2004#32)] with
        aborts := [⟨.read, 0x2008#32, .word, false⟩] })
      (fun s => reg s 0#4 == 5#32 && reg s 1#4 == 0x2008#32 && s.gpr .r14abt == 0x4008#32 &&
        s.spsrAbt == PSR.ofWord 0x20000010#32 && psr s == 0x20000097#32 && s.pc == 0x10#32) = true := by decide

/-- 95 §1.9: post-increment. -/
theorem test_stmia :
    after (runWord 0xE8A000A2#32 (at_ 0x00000010#32 0x8000#32 [(0#4, 0x1000#32), (1#4, 0x11#32), (5#4, 0x55#32), (7#4, 0x77#32)])) (fun s => word s 0x1000#32 == 0x11#32 && word s 0x1004#32 == 0x55#32 && word s 0x1008#32 == 0x77#32 && reg s 0#4 == 0x100C#32) = true := by decide

/-- 95 §1.9: pre-increment. -/
theorem test_stmib :
    after (runWord 0xE9A000A2#32 (at_ 0x00000010#32 0x8000#32 [(0#4, 0x1000#32), (1#4, 0x11#32), (5#4, 0x55#32), (7#4, 0x77#32)])) (fun s => word s 0x1004#32 == 0x11#32 && word s 0x1008#32 == 0x55#32 && word s 0x100C#32 == 0x77#32 && reg s 0#4 == 0x100C#32) = true := by decide

/-- 95 §1.9: post-decrement. -/
theorem test_stmda :
    after (runWord 0xE82000A2#32 (at_ 0x00000010#32 0x8000#32 [(0#4, 0x1000#32), (1#4, 0x11#32), (5#4, 0x55#32), (7#4, 0x77#32)])) (fun s => word s 0x0FF8#32 == 0x11#32 && word s 0x0FFC#32 == 0x55#32 && word s 0x1000#32 == 0x77#32 && reg s 0#4 == 0x0FF4#32) = true := by decide

/-- 95 §1.9: pre-decrement. -/
theorem test_stmdb :
    after (runWord 0xE92000A2#32 (at_ 0x00000010#32 0x8000#32 [(0#4, 0x1000#32), (1#4, 0x11#32), (5#4, 0x55#32), (7#4, 0x77#32)])) (fun s => word s 0x0FF4#32 == 0x11#32 && word s 0x0FF8#32 == 0x55#32 && word s 0x0FFC#32 == 0x77#32 && reg s 0#4 == 0x0FF4#32) = true := by decide

/-- 95 §1.9: post-increment. -/
theorem test_ldmia :
    after (runWord 0xE8B000A2#32 (withWords [(0x1000#32, 0x11#32), (0x1004#32, 0x55#32), (0x1008#32, 0x77#32)] (at_ 0x00000010#32 0x8000#32 [(0#4, 0x1000#32)]))) (fun s => reg s 1#4 == 0x11#32 && reg s 5#4 == 0x55#32 && reg s 7#4 == 0x77#32 && reg s 0#4 == 0x100C#32) = true := by decide

/-- 95 §1.9: pre-increment. -/
theorem test_ldmib :
    after (runWord 0xE9B000A2#32 (withWords [(0x1004#32, 0x11#32), (0x1008#32, 0x55#32), (0x100C#32, 0x77#32)] (at_ 0x00000010#32 0x8000#32 [(0#4, 0x1000#32)]))) (fun s => reg s 1#4 == 0x11#32 && reg s 5#4 == 0x55#32 && reg s 7#4 == 0x77#32 && reg s 0#4 == 0x100C#32) = true := by decide

/-- 95 §1.9: post-decrement. -/
theorem test_ldmda :
    after (runWord 0xE83000A2#32 (withWords [(0x0FF8#32, 0x11#32), (0x0FFC#32, 0x55#32), (0x1000#32, 0x77#32)] (at_ 0x00000010#32 0x8000#32 [(0#4, 0x1000#32)]))) (fun s => reg s 1#4 == 0x11#32 && reg s 5#4 == 0x55#32 && reg s 7#4 == 0x77#32 && reg s 0#4 == 0x0FF4#32) = true := by decide

/-- 95 §1.9: pre-decrement. -/
theorem test_ldmdb :
    after (runWord 0xE93000A2#32 (withWords [(0x0FF4#32, 0x11#32), (0x0FF8#32, 0x55#32), (0x0FFC#32, 0x77#32)] (at_ 0x00000010#32 0x8000#32 [(0#4, 0x1000#32)]))) (fun s => reg s 1#4 == 0x11#32 && reg s 5#4 == 0x55#32 && reg s 7#4 == 0x77#32 && reg s 0#4 == 0x0FF4#32) = true := by decide

/-- 95 §2.11: STMIA R1!,R0-R1 stores the new base. -/
theorem test_stm_base_second :
    after (runWord 0xE8A10003#32 (at_ 0x00000010#32 0x8000#32 [(0#4, 0x3000#32), (1#4, 0x3000#32)])) (fun s => word s 0x3000#32 == 0x3000#32 && word s 0x3004#32 == 0x3008#32 && reg s 1#4 == 0x3008#32) = true := by decide

/-- 95 §2.11: LDMIA R0!,R0-R1 keeps the loaded base. -/
theorem test_ldm_base_in_list :
    after (runWord 0xE8B00003#32 (withWords [(0x3000#32, 0xAAAA#32), (0x3004#32, 0xBBBB#32)] (at_ 0x00000010#32 0x8000#32 [(0#4, 0x3000#32), (1#4, 0x3000#32)]))) (fun s => reg s 0#4 == 0xAAAA#32 && reg s 1#4 == 0xBBBB#32) = true := by decide

/-- 95 §2.11: LDMFD SP!,R4,PC with S = 1 in IRQ mode. -/
theorem test_ldmRestore :
    after (runWord 0xE8FD8010#32
      { withWords [(0x3000#32, 4#32), (0x3004#32, 0x9000#32)] (at_ 0x00000092#32 0x8000#32 [(13#4, 0x3000#32)]) with
        spsrIrq := PSR.ofWord 0x60000010#32 })
      (fun s => reg s 4#4 == 4#32 && s.pc == 0x9000#32 && s.gpr .r13irq == 0x3008#32 && psr s == 0x60000010#32) =
        true := by decide

/-- 95 §2.11: STMDB R13,R13-R14 with S = 1 in Supervisor mode stores the User bank. -/
theorem test_stmUser :
    after (runWord 0xE94D6000#32
      (((at_ 0x00000013#32 0x8000#32 [(13#4, 0x4000#32), (14#4, 0x5555#32)]).setGpr .r13 0x1111#32).setGpr .r14 0x2222#32))
      (fun s => word s 0x3FF8#32 == 0x1111#32 && word s 0x3FFC#32 == 0x2222#32 && reg s 13#4 == 0x4000#32) =
        true := by decide

/-- 95 §2.11: LDMIA R13,R13-R14 with S = 1 in Supervisor mode loads the User bank. -/
theorem test_ldmUser :
    after (runWord 0xE8DD6000#32 (withWords [(0x4000#32, 0xAAA0#32), (0x4004#32, 0xBBB0#32)] (at_ 0x00000013#32 0x8000#32 [(13#4, 0x4000#32), (14#4, 0x5555#32)]))) (fun s => s.gpr .r13 == 0xAAA0#32 && s.gpr .r14 == 0xBBB0#32 && reg s 13#4 == 0x4000#32 && reg s 14#4 == 0x5555#32 && s.bankHazard) = true := by decide

/-- 95 §2.11: an empty list. -/
theorem test_stm_empty_list :
    refusedAs (runWord 0xE8800000#32 (at_ 0x00000010#32 0x1000#32 [])) .emptyList = true := by decide

/-- 95 §2.11: an aborted LDM with the base in its list. -/
theorem test_ldm_data_abort :
    after (runWord 0xE8B00007#32
      { withWords [(0x3000#32, 0xAAAA#32), (0x3004#32, 0xBBBB#32), (0x3008#32, 0xCCCC#32)]
          (at_ 0x00000010#32 0x4000#32 [(0#4, 0x3000#32), (1#4, 1#32), (2#4, 2#32)]) with
        aborts := [⟨.read, 0x3004#32, .word, false⟩] })
      (fun s => reg s 0#4 == 0x300C#32 && reg s 1#4 == 1#32 && reg s 2#4 == 2#32 && s.gpr .r14abt == 0x4008#32 &&
        s.pc == 0x10#32) = true := by decide

/-- 95 §2.12: SWP at byte offset 1. -/
theorem test_swp_rotates :
    after (runWord 0xE1020091#32 (withWords [(0x2000#32, 0x11223344#32)] (at_ 0x00000010#32 0x1000#32 [(1#4, 0xAABBCCDD#32), (2#4, 0x2001#32)]))) (fun s => reg s 0#4 == 0x44112233#32 && word s 0x2000#32 == 0xAABBCCDD#32) = true := by decide

/-- 95 §2.12: SWPB at offset 1, big endian. -/
theorem test_swpb_big :
    after (runWord 0xE1420091#32 (withWords [(0x2000#32, 0x11223344#32)] (big (at_ 0x00000010#32 0x1000#32 [(1#4, 0xAABBCCDD#32), (2#4, 0x2001#32)])))) (fun s => reg s 0#4 == 0x22#32 && word s 0x2000#32 == 0x11DD3344#32) = true := by decide

/-- 95 §2.12: SWI 0x123456. -/
theorem test_swi :
    after (runWord 0xEF123456#32 (at_ 0x60000010#32 0x8004#32 [])) (fun s => s.gpr .r14svc == 0x8008#32 && s.spsrSvc == PSR.ofWord 0x60000010#32 && psr s == 0x60000093#32 && s.pc == 8#32) = true := by decide

/-- 95 §2.12. -/
theorem test_cdp :
    after (runWord 0xEEA21103#32 (at_ 0x60000010#32 0x8000#32 [])) (fun s => s.gpr .r14und == 0x8004#32 && s.spsrUnd == PSR.ofWord 0x60000010#32 && psr s == 0x6000009B#32 && s.pc == 4#32) = true := by decide

/-- 95 §2.12. -/
theorem test_ldc :
    after (runWord 0xED9F2102#32 (at_ 0x0000001F#32 0x8000#32 [])) (fun s => s.gpr .r14und == 0x8004#32 && s.spsrUnd == PSR.ofWord 0x0000001F#32 && psr s == 0x0000009B#32 && s.pc == 4#32) = true := by decide

/-- 95 §2.12. -/
theorem test_stc :
    after (runWord 0x0DE53206#32 (at_ 0x40000010#32 0x8000#32 [])) (fun s => s.gpr .r14und == 0x8004#32 && s.spsrUnd == PSR.ofWord 0x40000010#32 && psr s == 0x4000009B#32 && s.pc == 4#32) = true := by decide

/-- 95 §2.12. -/
theorem test_mrc :
    after (runWord 0xEEB53216#32 (at_ 0x00000010#32 0x8000#32 [])) (fun s => s.gpr .r14und == 0x8004#32 && s.spsrUnd == PSR.ofWord 0x00000010#32 && psr s == 0x0000009B#32 && s.pc == 4#32) = true := by decide

/-- 95 §2.12. -/
theorem test_mcr :
    after (runWord 0xEE054616#32 (at_ 0x00000010#32 0x8000#32 [])) (fun s => s.gpr .r14und == 0x8004#32 && s.spsrUnd == PSR.ofWord 0x00000010#32 && psr s == 0x0000009B#32 && s.pc == 4#32) = true := by decide

/-- 95 §2.12. -/
theorem test_undefined :
    after (runWord 0xE7F000F0#32 (at_ 0x0000001F#32 0x2000#32 [])) (fun s => s.gpr .r14und == 0x2004#32 && s.spsrUnd == PSR.ofWord 0x0000001F#32 && psr s == 0x0000009B#32 && s.pc == 4#32) = true := by decide

/-- 10_state.md R86: a store to ULCON0 (R72) is one event and changes no memory. -/
theorem test_special_register_write :
    after (runWord 0xE5810000#32 (at_ 0x00000010#32 0x1000#32 [(0#4, 3#32), (1#4, 0x01d00000#32)]))
      (fun s => s.sfrLog == [.write .ulcon0 .word 3#32] && s.mem == []) = true := by decide

/-- 45_block_data_transfer.md R404, 20_memory.md R114: STMIA R1!,R0,R2 at ULCON0 + 2 writes ULCON0 and UCON0; the new base comes
from the unmasked base. -/
theorem test_stm_special_register_unaligned :
    after (runWord 0xE8A10005#32 (at_ 0x00000010#32 0x1000#32 [(0#4, 3#32), (1#4, 0x01d00002#32), (2#4, 7#32)]))
      (fun s => s.sfrLog == [.write .ulcon0 .word 3#32, .write .ucon0 .word 7#32] && reg s 1#4 == 0x01d0000A#32) =
        true := by decide

/-- 20_memory.md R110, R114: LDMIA R1,R0 at ULCON0 + 1 reads ULCON0. -/
theorem test_ldm_special_register_unaligned :
    after (runWord 0xE8910001#32 (at_ 0x00000010#32 0x1000#32 [(1#4, 0x01d00001#32)]))
      (fun s => s.sfrLog == [.read .ulcon0 .word] && s.draws == 1) = true := by decide

/-- 20_memory.md R141: a store into the next word is refused. -/
theorem test_store_into_prefetched_word :
    refusedAs (runWord 0xE58F1000#32 (at_ 0x00000010#32 0x1000#32 [])) .prefetchStore = true := by decide

/-- 70_reset_and_hazards.md R621: MOV R0,R13 right after a user-bank LDM. -/
theorem test_banked_read_hazard :
    refusedAs (runWord 0xE1A0000D#32 { at_ 0x00000013#32 0x1000#32 [] with bankHazard := true }) .bankedRead = true := by
  decide

/-- 95 §2.14: FIQ and IRQ both asserted and unmasked. -/
theorem test_fiq_first :
    after (step { at_ 0x00000010#32 0x8004#32 [] with inputs := [⟨none, true, true⟩] })
      (fun s => s.gpr .r14fiq == 0x8008#32 && psr s == 0x000000D1#32 && s.pc == 0x1C#32) = true := by decide

/-- 95 §2.14: IRQ with F = 1 and FIQ asserted. -/
theorem test_irq_when_fiq_masked :
    after (step { at_ 0x00000050#32 0x5004#32 [] with inputs := [⟨none, true, true⟩] })
      (fun s => s.gpr .r14irq == 0x5008#32 && psr s == 0x000000D2#32 && s.pc == 0x18#32) = true := by decide

/-- 95 §2.14: a prefetch abort. -/
theorem test_prefetch_abort :
    after (step { at_ 0x00000010#32 0x3000#32 [] with aborts := [⟨.fetch, 0x3000#32, .word, false⟩] })
      (fun s => s.gpr .r14abt == 0x3004#32 && psr s == 0x00000097#32 && s.pc == 0x0C#32) = true := by decide

/-- Whether a run ended at its exit address, that address being `a`. -/
def exitedAt (e : RunEnd) (a : Word) : Bool :=
  match e with
  | .exited s => s.pc == a
  | .bounded _ => false
  | .fault _ _ => false
  | .refused _ _ => false

/-- 70_reset_and_hazards.md R605: two words of zeros (ANDEQ R0,R0,R0) and the exit address; without an exit the bound ends it. -/
theorem test_runUntil_exit :
    exitedAt (runUntil (some 8#32) 5 State.reset) 8#32 = true ∧
    exitedAt (runUntil (some 8#32) 1 State.reset) 8#32 = false ∧
    exitedAt (runUntil none 5 State.reset) 8#32 = false := by decide

/-- 95 §2.5: MOVS R0,#0xFF000000 placed right after reset runs as the first step. -/
theorem test_first_step_after_reset :
    after (step (State.reset.withFetchWord 32 0xE3B004FF))
      (fun s => reg s 0#4 == 0xFF000000#32 && s.pc == 4#32 && s.cpsr.n && s.cpsr.c) = true := by decide

/-! ### The hypotheses of the obligations are met

One theorem per obligation that has hypotheses: a concrete state and operands that meet them, clause by clause. -/

/-- User mode at 0x8000. -/
def usr : State :=
  at_ 0x00000010#32 0x8000#32
    [(0#4, 5#32), (1#4, 0x2000#32), (2#4, 2#32), (3#4, 0x2001#32), (13#4, 0x4000#32), (14#4, 0x9000#32)]

/-- Supervisor mode at 0x8000, its SPSR naming User mode. -/
def svc : State :=
  { at_ 0x00000013#32 0x8000#32
      [(0#4, 5#32), (1#4, 0x2000#32), (2#4, 2#32), (3#4, 0x2001#32), (13#4, 0x4000#32), (14#4, 0x9000#32)] with
    spsrSvc := PSR.ofWord 0x60000010#32 }

/-- An outcome that is some next state. -/
theorem next_of {o : Outcome} (h : after o (fun _ => true) = true) : ∃ t, o = .next t := by
  cases o with
  | next t => exact ⟨t, rfl⟩
  | fault f => cases h
  | refused r => cases h

/-- The conditions of `CanRead`, as a test. -/
def readable (s : State) (z : Size) (a : Word) (priv : Bool) : Bool :=
  !s.abortsAccess .read a z priv && !inSfrWindow a && (firstUnmapped s.map (alignDown z a).toNat z.bytes).isNone

theorem canRead_of {s : State} {z : Size} {a : Word} {priv : Bool} (h : readable s z a priv = true) :
    s.CanRead z a priv := by
  simp only [readable, Bool.and_eq_true, Bool.not_eq_true', Option.isNone_iff_eq_none] at h
  exact ⟨h.1.1, h.1.2, h.2⟩

/-- The conditions of `CanWrite`, as a test. -/
def writable (s : State) (z : Size) (a : Word) (priv : Bool) : Bool :=
  !s.abortsAccess .write a z priv && !overlapsPrefetch s.pc (alignDown z a) z.bytes && !inSfrWindow a
    && (firstUnmapped s.map (alignDown z a).toNat z.bytes).isNone
    && !refusesWrite s.map (alignDown z a).toNat z.bytes

theorem canWrite_of {s : State} {z : Size} {a : Word} {priv : Bool} (h : writable s z a priv = true) :
    s.CanWrite z a priv := by
  simp only [writable, Bool.and_eq_true, Bool.not_eq_true', Option.isNone_iff_eq_none] at h
  exact ⟨h.1.1.1.1, h.1.1.1.2, h.1.1.2, h.1.2, h.2⟩

/-- Where the map is that of the reset state, every byte that an access touches is RAM. -/
theorem ram_of {s : State} (hm : s.map = State.reset.map) (z : Size) (a : Word) :
    ∀ x, touches z a x → kindAt s.map x = some .ram := by
  intro x hx
  have h := alignDown_bytes_le z a
  have hlt : x < 4294967296 := by have := hx.2; omega
  simp [hm, State.reset, kindAt, Region.holds, hlt]

/-- Every word of a block can be read. -/
theorem reads_of {s : State} {f : BlockForm} (n : Nat) (hn : (regsOf f.list).length = n)
    (h : ∀ k, k < n → readable s .word (f.addr s k) s.privileged = true) :
    ∀ k, k < (regsOf f.list).length → s.CanRead .word (f.addr s k) s.privileged :=
  fun k hk => canRead_of (h k (hn ▸ hk))

/-- Every word of a block can be written, into RAM. -/
theorem writes_of {s : State} {f : BlockForm} (n : Nat) (hn : (regsOf f.list).length = n) (hm : s.map = State.reset.map)
    (h : ∀ k, k < n → writable s .word (f.addr s k) s.privileged = true) :
    ∀ k, k < (regsOf f.list).length → s.CanWrite .word (f.addr s k) s.privileged ∧
      ∀ x, touches .word (f.addr s k) x → kindAt s.map x = some .ram :=
  fun k hk => ⟨canWrite_of (h k (hn ▸ hk)), ram_of hm _ _⟩

/-- Boundary value: the restoring LDM and the user-bank LDM at the bit that tells them apart. -/
theorem witness_DecodeEncodeRoundTrip :
    (Instr.ldmRestore .al false true true 13#4 0x8000#16).wf = true ∧
    (Instr.ldmUser .al false true false 13#4 0x7FFF#16).wf = true ∧ (Instr.b .al 0x800000#24).wf = true := by decide

theorem witness_EncodeDecodeRoundTrip : decode 0x00000000#32 = .ok (.andShift .eq false 0#4 0#4 ⟨0#5, .lsl, 0#4⟩) := by
  decide

theorem witness_ReservedConditionIsRefused :
    (0xF0000000#32 : Word).extractLsb' 28 4 = 0b1111#4 ∧ (0xFFFFFFFF#32 : Word).extractLsb' 28 4 = 0b1111#4 := by decide

theorem witness_TrappingWordsAreExactlyTheListed :
    (0xE6000010#32 : Word).extractLsb' 28 4 ≠ 0b1111#4 ∧ (0xE6000010#32 : Word).extractLsb' 25 3 = 0b011#3 ∧
    (0xE6000010#32 : Word).getLsbD 4 = true ∧
    (0xED9F2102#32 : Word).extractLsb' 28 4 ≠ 0b1111#4 ∧ (0xED9F2102#32 : Word).extractLsb' 25 3 = 0b110#3 ∧
    (0xEEFFFFFF#32 : Word).extractLsb' 28 4 ≠ 0b1111#4 ∧ (0xEEFFFFFF#32 : Word).extractLsb' 24 4 = 0b1110#4 := by decide

/-- A masked IRQ is asserted at the boundary. -/
def stepWitness : State :=
  { State.reset.withFetchWord 32 0xE3A00001 with inputs := [⟨none, false, true⟩, ⟨none, false, false⟩] }

theorem witness_StepRunsTheDecodedInstruction :
    stepWitness.boundary.reset = none ∧ stepWitness.mode.isSome = true ∧ stepWitness.cpsr.t = false ∧
    (stepWitness.boundary.fiq && !stepWitness.cpsr.f) = false ∧
    (stepWitness.boundary.irq && !stepWitness.cpsr.i) = false ∧
    wordAligned stepWitness.pc = true ∧ stepWitness.abortsAccess .fetch stepWitness.pc .word stepWitness.privileged = false ∧
    inSfrWindow stepWitness.pc = false ∧ firstUnmapped stepWitness.map stepWitness.pc.toNat 4 = none ∧
    decode (stepWitness.readMem .word stepWitness.pc) = .ok (.movImm .al false 0#4 0#4 ⟨0#4, 1#8⟩) ∧
    hazardous (.movImm .al false 0#4 0#4 ⟨0#4, 1#8⟩) stepWitness = false := by decide

/-- A Supervisor state with listed memory and a pending hazard, whose step is a user-bank LDM. -/
def invWitness : State := { svc with bankHazard := true }.withFetchWord 32 0xE8D10003

theorem witness_StepKeepsTheInvariant : invWitness.Inv ∧ ∃ t, step invWitness = .next t :=
  ⟨⟨by decide, by decide, by decide, by decide⟩, next_of (by decide)⟩

/-- A reset that is asserted; an illegal mode; THUMB state. -/
theorem witness_ResetStuckAndThumbComeFirst :
    let a : State := { usr with cpsr := PSR.ofWord 0x00000014#32, inputs := [⟨none, true, true⟩] }
    let b : State := { usr with cpsr := PSR.ofWord 0x00000030#32 }
    { usr with inputs := [⟨some ⟨true, 0b0010#4⟩, true, true⟩] }.boundary.reset = some ⟨true, 0b0010#4⟩ ∧
    a.boundary.reset = none ∧ a.mode = none ∧ b.boundary.reset = none ∧ b.mode.isSome = true ∧ b.cpsr.t = true := by
  decide

theorem witness_ExceptionEntrySequence : ExceptionKind.fiq ≠ .reset ∧ ExceptionKind.undefined ≠ .reset := by decide

/-- FIQ and IRQ both unmasked; FIQ masked and IRQ not. -/
theorem witness_InterruptsAreTakenAtTheBoundary :
    let s : State := { usr with inputs := [⟨none, true, true⟩] }
    let r : State := { usr with cpsr := PSR.ofWord 0x00000050#32, inputs := [⟨none, true, true⟩] }
    (s.boundary.reset = none ∧ s.mode.isSome = true ∧ s.cpsr.t = false ∧ s.boundary.fiq = true ∧ s.cpsr.f = false) ∧
    r.boundary.reset = none ∧ r.mode.isSome = true ∧ r.cpsr.t = false ∧ (r.boundary.fiq && !r.cpsr.f) = false ∧
    r.boundary.irq = true ∧ r.cpsr.i = false := by decide

theorem witness_PrefetchAbortReplacesTheInstruction :
    let s : State := { usr with aborts := [⟨.fetch, 0x8000#32, .word, false⟩] }
    s.boundary.reset = none ∧ s.mode.isSome = true ∧ s.cpsr.t = false ∧ (s.boundary.fiq && !s.cpsr.f) = false ∧
    (s.boundary.irq && !s.cpsr.i) = false ∧ wordAligned s.pc = true ∧
    s.abortsAccess .fetch s.pc .word s.privileged = true := by decide

theorem witness_SwiEntersSupervisorMode : condPassed .ne usr.cpsr = true := by decide

theorem witness_UndefinedTrapOfSixInstructions :
    trapForm (.undefined .al 0xFFFFF#20 0xF#4) = some .al ∧
    trapForm (.cdp .ne 0xA#4 2#4 1#4 1#4 0#3 3#4) = some .ne ∧
    condPassed .al usr.cpsr = true ∧ condPassed .ne usr.cpsr = true := by decide

/-- SUBS PC,R14,#4 and its variants: an aligned, an unaligned and a THUMB return, and a mode with no SPSR. -/
theorem witness_DataProcessingReturnsFromException :
    let i : Instr := .subImm .al true 14#4 15#4 ⟨0#4, 4#8⟩
    let j : Instr := .subImm .al true 14#4 15#4 ⟨0#4, 2#8⟩
    let s : State := { svc with spsrSvc := PSR.ofWord 0x00000030#32 }
    (∃ f, resultForm i svc = some f ∧ condPassed f.cond svc.cpsr = true ∧ f.broken = none ∧ f.sf = true ∧ f.rd = 15#4 ∧
      ∃ p, svc.spsr = some p ∧ p.t = false ∧ wordAligned (alu f.op f.op1 f.op2 svc.cpsr).val = true) ∧
    (∃ f, resultForm j svc = some f ∧ condPassed f.cond svc.cpsr = true ∧ f.broken = none ∧ f.sf = true ∧ f.rd = 15#4 ∧
      ∃ p, svc.spsr = some p ∧ p.t = false ∧ wordAligned (alu f.op f.op1 f.op2 svc.cpsr).val = false) ∧
    (∃ f, resultForm j s = some f ∧ condPassed f.cond s.cpsr = true ∧ f.broken = none ∧ f.sf = true ∧ f.rd = 15#4 ∧
      ∃ p, s.spsr = some p ∧ p.t = true) ∧
    (∃ f, resultForm i usr = some f ∧ condPassed f.cond usr.cpsr = true ∧ f.broken = none ∧ f.sf = true ∧ f.rd = 15#4 ∧
      usr.spsr = none) :=
  ⟨⟨_, rfl, by decide, rfl, rfl, rfl, _, rfl, by decide, by decide⟩,
    ⟨_, rfl, by decide, rfl, rfl, rfl, _, rfl, by decide, by decide⟩,
    ⟨_, rfl, by decide, rfl, rfl, rfl, _, rfl, by decide⟩, ⟨_, rfl, by decide, rfl, rfl, rfl, by decide⟩⟩

theorem witness_SwiThenMovsReturnsToTheCaller :
    condPassed .al usr.cpsr = true ∧ usr.cpsr.t = false ∧ wordAligned usr.pc = true ∧
    ∃ t, exec (.swi .al 7#24) usr = .next t :=
  ⟨by decide, by decide, by decide, next_of (by decide)⟩

theorem witness_FailedConditionOnlyAdvances :
    condPassed (Instr.swi .eq 0#24).cond usr.cpsr = false ∧ usr.pc ≠ 0xFFFFFFFC#32 ∧
    condPassed (Instr.swi .eq 0#24).cond { usr with pc := 0xFFFFFFFC#32 }.cpsr = false := by decide

theorem witness_ShiftByInstructionAmount : (1#5 : BitVec 5) ≠ 0#5 ∧ (31#5 : BitVec 5) ≠ 0#5 := by decide

theorem witness_ShiftByRegisterAmount :
    (1#5 : BitVec 5) ≠ 0#5 ∧ (31#5 : BitVec 5) ≠ 0#5 ∧ 32 ≤ 32 ∧ 32 ≤ 255 ∧ 255 ≤ 255 ∧ 32 = (32 - 1) % 32 + 1 ∧
    31 = (255 - 1) % 32 + 1 := by decide

theorem witness_ProgramCounterAsOperand : (14#4 : Reg) ≠ 15#4 := by decide

theorem witness_ArithmeticOperations (op : Opcode) (h : op = .rsc) :
    op = .sub ∨ op = .cmp ∨ op = .rsb ∨ op = .add ∨ op = .cmn ∨ op = .adc ∨ op = .sbc ∨ op = .rsc := by
  subst h; decide

theorem witness_LogicalOperations (op : Opcode) (h : op = .mvn) :
    op = .and ∨ op = .eor ∨ op = .tst ∨ op = .teq ∨ op = .orr ∨ op = .mov ∨ op = .bic ∨ op = .mvn := by
  subst h; decide

/-- An immediate form and a form shifted by a register. -/
theorem witness_DataProcessingWritesItsResult :
    (∃ f, resultForm (.addImm .al true 0#4 14#4 ⟨1#4, 0xFF#8⟩) usr = some f ∧ condPassed f.cond usr.cpsr = true ∧
      f.broken = none ∧ f.rd ≠ 15#4 ∧ usr.pc ≠ 0xFFFFFFFC#32) ∧
    (∃ f, resultForm (.mvnRegShift .al false 0#4 0#4 ⟨14#4, .ror, 15#4⟩) usr = some f ∧
      condPassed f.cond usr.cpsr = true ∧ f.broken = none ∧ f.rd ≠ 15#4 ∧ usr.pc ≠ 0xFFFFFFFC#32) :=
  ⟨⟨_, rfl, by decide, rfl, by decide, by decide⟩, ⟨_, rfl, by decide, by decide, by decide, by decide⟩⟩

/-- MOV PC,R14 and MOV PC,R2. -/
theorem witness_DataProcessingWritesThePc :
    (∃ f, resultForm (.movShift .al false 0#4 15#4 ⟨0#5, .lsl, 14#4⟩) usr = some f ∧ condPassed f.cond usr.cpsr = true ∧
      f.broken = none ∧ f.rd = 15#4 ∧ f.sf = false ∧ usr.cpsr.t = false ∧
      wordAligned (alu f.op f.op1 f.op2 usr.cpsr).val = true) ∧
    (∃ f, resultForm (.movShift .al false 0#4 15#4 ⟨0#5, .lsl, 2#4⟩) usr = some f ∧ condPassed f.cond usr.cpsr = true ∧
      f.broken = none ∧ f.rd = 15#4 ∧ f.sf = false ∧ usr.cpsr.t = false ∧
      wordAligned (alu f.op f.op1 f.op2 usr.cpsr).val = false) :=
  ⟨⟨_, rfl, by decide, rfl, rfl, rfl, by decide, by decide⟩, ⟨_, rfl, by decide, rfl, rfl, rfl, by decide, by decide⟩⟩

theorem witness_TestsSetOnlyTheFlags :
    ∃ f, testForm (.cmpRegShift .al 1#4 0#4 ⟨2#4, .asr, 3#4⟩) usr = some f ∧ condPassed f.cond usr.cpsr = true ∧
      f.broken = none ∧ usr.pc ≠ 0xFFFFFFFC#32 :=
  ⟨_, rfl, by decide, by decide, by decide⟩

theorem witness_BranchesReachTheirTarget : condPassed .al usr.cpsr = true := by decide

/-- BX R15, R3 (bit 0 set), R1 (bits 1:0 clear) and R2 (bit 1 set, bit 0 clear). -/
theorem witness_BranchAndExchange :
    condPassed .al usr.cpsr = true ∧ (3#4 : Reg) ≠ 15#4 ∧ (usr.readReg 8#32 3#4).getLsbD 0 = true ∧
    (1#4 : Reg) ≠ 15#4 ∧ (usr.readReg 8#32 1#4).getLsbD 0 = false ∧ (usr.readReg 8#32 1#4).getLsbD 1 = false ∧
    (2#4 : Reg) ≠ 15#4 ∧ (usr.readReg 8#32 2#4).getLsbD 0 = false ∧ (usr.readReg 8#32 2#4).getLsbD 1 = true := by decide

theorem witness_MrsReadsTheStatusRegister :
    condPassed .al svc.cpsr = true ∧ (0#4 : Reg) ≠ 15#4 ∧ svc.spsr = some (PSR.ofWord 0x60000010#32) ∧
    svc.pc ≠ 0xFFFFFFFC#32 := by decide

/-- User mode; Supervisor mode with an equal and with a different T bit; an SPSR. -/
theorem witness_MsrWritesTheWholeStatusRegister :
    let a : State := svc.setReg 0#4 0x00000033#32
    condPassed .al usr.cpsr = true ∧ condPassed .al svc.cpsr = true ∧ (0#4 : Reg) ≠ 15#4 ∧
    usr.cpsr.m = 0b10000#5 ∧ usr.pc ≠ 0xFFFFFFFC#32 ∧
    svc.cpsr.m ≠ 0b10000#5 ∧ (svc.readReg 8#32 0#4).getLsbD 5 = svc.cpsr.t ∧ svc.pc ≠ 0xFFFFFFFC#32 ∧
    a.cpsr.m ≠ 0b10000#5 ∧ (a.readReg 8#32 0#4).getLsbD 5 ≠ a.cpsr.t ∧
    svc.mode = some .svc ∧ Mode.svc ≠ .usr ∧ Mode.svc ≠ .sys := by decide

theorem witness_MsrWritesTheFlags :
    condPassed .al svc.cpsr = true ∧ (0#4 : Reg) ≠ 15#4 ∧ svc.pc ≠ 0xFFFFFFFC#32 ∧ svc.mode = some .svc ∧
    svc.spsrOf .svc = some (PSR.ofWord 0x60000010#32) := by decide

theorem witness_MultiplyWritesItsResult :
    (∃ f, mulForm (.mul .al true 0#4 15#4 1#4 2#4) usr = some f ∧ condPassed f.cond usr.cpsr = true ∧ f.broken = none ∧
      usr.pc ≠ 0xFFFFFFFC#32) ∧
    (∃ f, mulForm (.mla .al false 14#4 3#4 1#4 2#4) usr = some f ∧ condPassed f.cond usr.cpsr = true ∧ f.broken = none ∧
      usr.pc ≠ 0xFFFFFFFC#32) :=
  ⟨⟨_, rfl, by decide, by decide, by decide⟩, ⟨_, rfl, by decide, by decide, by decide⟩⟩

theorem witness_LongMultiplyWritesItsResult :
    ∃ f, longForm (.smlal .al true 4#4 5#4 1#4 2#4) = some f ∧ condPassed f.cond usr.cpsr = true ∧ f.broken = none ∧
      usr.pc ≠ 0xFFFFFFFC#32 :=
  ⟨_, rfl, by decide, by decide, by decide⟩

/-- A word at an unaligned address with write-back, and a signed halfword. -/
theorem witness_LoadsReadMemory :
    (∃ f, loadForm (.ldrImmPre .al true true 3#4 0#4 4#12) usr = some f ∧ condPassed f.cond usr.cpsr = true ∧
      f.broken = none ∧ f.rd ≠ 15#4 ∧ usr.pc ≠ 0xFFFFFFFC#32 ∧ usr.CanRead f.kind.size f.x.addr f.priv ∧
      (f.kind.size = .half → f.x.addr.getLsbD 0 = false)) ∧
    (∃ f, loadForm (.ldrshReg .al false true false 1#4 0#4 2#4) usr = some f ∧ condPassed f.cond usr.cpsr = true ∧
      f.broken = none ∧ f.rd ≠ 15#4 ∧ usr.pc ≠ 0xFFFFFFFC#32 ∧ usr.CanRead f.kind.size f.x.addr f.priv ∧
      (f.kind.size = .half → f.x.addr.getLsbD 0 = false)) :=
  ⟨⟨_, rfl, by decide, by decide, by decide, by decide, canRead_of (by decide), by decide⟩,
    ⟨_, rfl, by decide, by decide, by decide, by decide, canRead_of (by decide), by decide⟩⟩

/-- LDR PC of an aligned word and of one that is not aligned, LDRB PC and LDRSH PC. -/
theorem witness_LoadsIntoThePc :
    let s : State := withWords [(0x2000#32, 0x9000#32), (0x2004#32, 0x9002#32)] usr
    let met : Instr → Bool → Prop := fun i ok =>
      ∃ f, loadForm i s = some f ∧ condPassed f.cond s.cpsr = true ∧ f.broken = none ∧ f.rd = 15#4 ∧ s.cpsr.t = false ∧
        s.CanRead f.kind.size f.x.addr f.priv ∧ (f.kind.size = .half → f.x.addr.getLsbD 0 = false) ∧
        wordAligned (f.kind.value f.x.addr (s.readMem f.kind.size (alignDown f.kind.size f.x.addr))) = ok
    met (.ldrImmPre .al true false 1#4 15#4 0#12) true ∧ met (.ldrImmPre .al true false 1#4 15#4 4#12) false ∧
    met (.ldrbImmPre .al true false 1#4 15#4 0#12) true ∧ met (.ldrshImm .al true true false 1#4 15#4 4#8) false :=
  ⟨⟨_, rfl, by decide, by decide, rfl, by decide, canRead_of (by decide), by decide, by decide⟩,
    ⟨_, rfl, by decide, by decide, rfl, by decide, canRead_of (by decide), by decide, by decide⟩,
    ⟨_, rfl, by decide, by decide, rfl, by decide, canRead_of (by decide), by decide, by decide⟩,
    ⟨_, rfl, by decide, by decide, rfl, by decide, canRead_of (by decide), by decide, by decide⟩⟩

/-- LDRH at R3 = 0x2001, into R0 and into R15 (where the free value lands is the statement's own case split). -/
theorem witness_OddHalfwordLoadsAreFree :
    (∃ f, loadForm (.ldrhImm .al true true false 3#4 0#4 0#8) usr = some f ∧ condPassed f.cond usr.cpsr = true ∧
      f.broken = none ∧ f.kind.size = .half ∧ f.x.addr.getLsbD 0 = true ∧ f.rd ≠ 15#4 ∧ usr.pc ≠ 0xFFFFFFFC#32) ∧
    (∃ f, loadForm (.ldrhImm .al true true false 3#4 15#4 0#8) usr = some f ∧ condPassed f.cond usr.cpsr = true ∧
      f.broken = none ∧ f.kind.size = .half ∧ f.x.addr.getLsbD 0 = true ∧ f.rd = 15#4 ∧ usr.cpsr.t = false) :=
  ⟨⟨_, rfl, by decide, by decide, by decide, by decide, by decide, by decide⟩,
    ⟨_, rfl, by decide, by decide, by decide, by decide, rfl, by decide⟩⟩

/-- A word store with write-back, a store at the first byte after the prefetched words, a halfword store. -/
theorem witness_StoresWriteMemory :
    (∃ f, storeForm (.strImmPost .al true 3#4 15#4 4#12) usr = some f ∧ condPassed f.cond usr.cpsr = true ∧
      f.broken = none ∧ usr.pc ≠ 0xFFFFFFFC#32 ∧ usr.CanWrite f.kind.size f.x.addr f.priv ∧
      (∀ x, touches f.kind.size f.x.addr x → kindAt usr.map x = some .ram) ∧
      (f.kind.size = .half → f.x.addr.getLsbD 0 = false) ∧ (f.kind.size = .word → usr.refusesUnaligned f.x.addr = false)) ∧
    (∃ f, storeForm (.strbImmPre .al true false 15#4 0#4 4#12) usr = some f ∧ condPassed f.cond usr.cpsr = true ∧
      f.broken = none ∧ usr.pc ≠ 0xFFFFFFFC#32 ∧ usr.CanWrite f.kind.size f.x.addr f.priv ∧
      (∀ x, touches f.kind.size f.x.addr x → kindAt usr.map x = some .ram) ∧
      (f.kind.size = .half → f.x.addr.getLsbD 0 = false) ∧ (f.kind.size = .word → usr.refusesUnaligned f.x.addr = false)) ∧
    (∃ f, storeForm (.strhReg .al true false true 1#4 0#4 2#4) usr = some f ∧ condPassed f.cond usr.cpsr = true ∧
      f.broken = none ∧ usr.pc ≠ 0xFFFFFFFC#32 ∧ usr.CanWrite f.kind.size f.x.addr f.priv ∧
      (∀ x, touches f.kind.size f.x.addr x → kindAt usr.map x = some .ram) ∧
      (f.kind.size = .half → f.x.addr.getLsbD 0 = false) ∧ (f.kind.size = .word → usr.refusesUnaligned f.x.addr = false)) :=
  ⟨⟨_, rfl, by decide, by decide, by decide, canWrite_of (by decide), ram_of rfl _ _, by decide, by decide⟩,
    ⟨_, rfl, by decide, by decide, by decide, canWrite_of (by decide), ram_of rfl _ _, by decide, by decide⟩,
    ⟨_, rfl, by decide, by decide, by decide, canWrite_of (by decide), ram_of rfl _ _, by decide, by decide⟩⟩

/-- One form for each of the seven clauses. -/
theorem witness_RestrictedFormsAreRefused :
    let m : State := { usr with misaligned := .refuse }
    (∃ f, testForm (.cmpImm .al 0#4 15#4 ⟨0#4, 0#8⟩) usr = some f ∧ condPassed f.cond usr.cpsr = true ∧
      f.broken = some .teqpForm) ∧
    (∃ f, loadForm (.ldrRegPost .al true 1#4 0#4 ⟨0#5, .lsl, 1#4⟩) usr = some f ∧ condPassed f.cond usr.cpsr = true ∧
      f.broken = some .postIndexedRmRn) ∧
    (∃ f, storeForm (.strhImm .al true true false 3#4 0#4 0#8) usr = some f ∧ condPassed f.cond usr.cpsr = true ∧
      f.broken = none ∧ f.kind.size = .half ∧ f.x.addr.getLsbD 0 = true) ∧
    (∃ f, storeForm (.strImmPre .al true false 3#4 0#4 0#12) m = some f ∧ condPassed f.cond m.cpsr = true ∧
      f.broken = none ∧ f.kind.size = .word ∧ m.refusesUnaligned f.x.addr = true) ∧
    (∃ f, mulForm (.mul .al false 1#4 0#4 2#4 1#4) usr = some f ∧ condPassed f.cond usr.cpsr = true ∧
      f.broken = some .multiplyRdRm) ∧
    (∃ f, longForm (.umull .al false 1#4 1#4 3#4 2#4) = some f ∧ condPassed f.cond usr.cpsr = true ∧
      f.broken = some .longNotDistinct) ∧
    (condPassed .al usr.cpsr = true ∧ usr.spsr = none ∧ (0#4 : Reg) ≠ 15#4) :=
  ⟨⟨_, rfl, by decide, by decide⟩, ⟨_, rfl, by decide, by decide⟩, ⟨_, rfl, by decide, by decide, by decide, by decide⟩,
    ⟨_, rfl, by decide, by decide, by decide, by decide⟩, ⟨_, rfl, by decide, by decide⟩, ⟨_, rfl, by decide, by decide⟩,
    by decide⟩

/-- An aborted load with write-back and an aborted store. -/
theorem witness_SingleTransferDataAbort :
    let s : State := { usr with aborts := [⟨.read, 0x2004#32, .word, false⟩, ⟨.write, 0x2000#32, .byte, false⟩] }
    (∃ f, condPassed f.cond s.cpsr = true ∧ f.broken = none ∧
      loadForm (.ldrImmPre .al true true 1#4 0#4 4#12) s = some f ∧
      s.abortsAccess .read f.x.addr f.kind.size f.priv = true ∧ (f.kind.size = .half → f.x.addr.getLsbD 0 = false)) ∧
    (∃ f, condPassed f.cond s.cpsr = true ∧ f.broken = none ∧ storeForm (.strbtImm .al true 1#4 0#4 4#12) s = some f ∧
      s.abortsAccess .write f.x.addr f.kind.size f.priv = true ∧
      (f.kind.size = .word → s.refusesUnaligned f.x.addr = false) ∧
      (f.kind.size = .half → f.x.addr.getLsbD 0 = false)) :=
  ⟨⟨⟨.al, .word, 1#4, 0#4, ⟨0x2004#32, some 0x2004#32⟩, false, none⟩, by decide, rfl, rfl, by decide, by decide⟩,
    ⟨⟨.al, .byte, 1#4, 0#4, ⟨0x2000#32, some 0x2004#32⟩, false, none⟩, by decide, rfl, rfl, by decide, by decide,
      by decide⟩⟩

/-- The last word of the address space. -/
theorem witness_LoadAfterStore :
    wordAligned 0xFFFFFFFC#32 = true ∧ (∀ x, touches .word 0xFFFFFFFC#32 x → kindAt usr.map x = some .ram) :=
  ⟨by decide, ram_of rfl _ _⟩

theorem witness_LoadMultipleLoadsItsRegisters :
    ∃ f, ldmForm (.ldmdb .al true 1#4 0x7003#16) = some f ∧ condPassed f.cond usr.cpsr = true ∧ f.broken usr = none ∧
      f.list.getLsbD 15 = false ∧ usr.pc ≠ 0xFFFFFFFC#32 ∧
      ∀ k, k < (regsOf f.list).length → usr.CanRead .word (f.addr usr k) usr.privileged := by
  exact ⟨_, rfl, by decide, by decide, by decide, by decide, reads_of 5 (by decide) (by decide)⟩

/-- LDMIA R1,R0,R15 and LDMIB R1,R15: an aligned and an unaligned word for the PC. -/
theorem witness_LoadMultipleLoadsThePc :
    let s : State := withWords [(0x2004#32, 0x9000#32), (0x2008#32, 0x9002#32)] usr
    let f : BlockForm := ⟨.al, false, true, false, 1#4, 0x8001#16⟩
    let g : BlockForm := ⟨.al, true, true, false, 1#4, 0x8001#16⟩
    (ldmForm (.ldmia .al false 1#4 0x8001#16) = some f ∧ condPassed f.cond s.cpsr = true ∧ f.broken s = none ∧
      f.list.getLsbD 15 = true ∧ s.cpsr.t = false ∧
      (∀ k, k < (regsOf f.list).length → s.CanRead .word (f.addr s k) s.privileged) ∧
      wordAligned (s.readMem .word (alignDown .word (f.addr s ((regsOf f.list).length - 1)))) = true) ∧
    (ldmForm (.ldmib .al false 1#4 0x8001#16) = some g ∧ condPassed g.cond s.cpsr = true ∧ g.broken s = none ∧
      g.list.getLsbD 15 = true ∧ s.cpsr.t = false ∧
      (∀ k, k < (regsOf g.list).length → s.CanRead .word (g.addr s k) s.privileged) ∧
      wordAligned (s.readMem .word (alignDown .word (g.addr s ((regsOf g.list).length - 1)))) = false) := by
  intro s f g
  exact ⟨⟨rfl, by decide, by decide, by decide, by decide,
      reads_of 2 (by decide) (by decide),
      by decide⟩,
    ⟨rfl, by decide, by decide, by decide, by decide,
      reads_of 2 (by decide) (by decide),
      by decide⟩⟩

/-- A restored THUMB state, an aligned and an unaligned return in ARM state, User mode and System mode. -/
theorem witness_LoadMultipleRestoresTheCpsr :
    let s : State := withWords [(0x2004#32, 0x9000#32), (0x2008#32, 0x9002#32)] svc
    let t : State := { s with spsrSvc := PSR.ofWord 0x00000030#32 }
    let f : BlockForm := ⟨.al, false, true, false, 1#4, 0x8001#16⟩
    let g : BlockForm := ⟨.al, true, true, false, 1#4, 0x8001#16⟩
    (condPassed .al s.cpsr = true ∧ (0x8001#16 : BitVec 16).getLsbD 15 = true ∧
      s.spsr = some (PSR.ofWord 0x60000010#32) ∧ t.spsr = some (PSR.ofWord 0x00000030#32)) ∧
    (f.broken s = none ∧ (∀ k, k < (regsOf f.list).length → s.CanRead .word (f.addr s k) s.privileged) ∧
      wordAligned (s.readMem .word (alignDown .word (f.addr s ((regsOf f.list).length - 1)))) = true) ∧
    (g.broken s = none ∧ (∀ k, k < (regsOf g.list).length → s.CanRead .word (g.addr s k) s.privileged) ∧
      wordAligned (s.readMem .word (alignDown .word (g.addr s ((regsOf g.list).length - 1)))) = false) ∧
    (g.broken t = none ∧ (∀ k, k < (regsOf g.list).length → t.CanRead .word (g.addr t k) t.privileged) ∧
      (PSR.ofWord 0x00000030#32).t = true) ∧
    condPassed .al usr.cpsr = true ∧ usr.cpsr.m = 0b10000#5 ∧
    { usr with cpsr := PSR.ofWord 0x0000001F#32 }.cpsr.m = 0b11111#5 := by
  intro s t f g
  exact ⟨by decide,
    ⟨by decide, reads_of 2 (by decide) (by decide),
      by decide⟩,
    ⟨by decide, reads_of 2 (by decide) (by decide),
      by decide⟩,
    ⟨by decide, reads_of 2 (by decide) (by decide),
      by decide⟩, by decide, by decide, by decide⟩

/-- The words below R13_svc, in Supervisor and in System mode; for the store a list with R15. -/
theorem witness_UserBankTransfers :
    let f : BlockForm := ⟨.al, true, false, false, 13#4, 0x6000#16⟩
    let g : BlockForm := ⟨.al, true, false, false, 13#4, 0xE000#16⟩
    let sys : State := { usr with cpsr := PSR.ofWord 0x0000001F#32 }
    (condPassed .al svc.cpsr = true ∧ svc.cpsr.m ≠ 0b10000#5 ∧ f.broken svc = none ∧ svc.pc ≠ 0xFFFFFFFC#32 ∧
      (0x6000#16 : BitVec 16).getLsbD 15 = false ∧
      (∀ k, k < (regsOf f.list).length → svc.CanRead .word (f.addr svc k) svc.privileged)) ∧
    (condPassed .al sys.cpsr = true ∧ sys.cpsr.m ≠ 0b10000#5 ∧ f.broken sys = none ∧ sys.pc ≠ 0xFFFFFFFC#32 ∧
      (∀ k, k < (regsOf f.list).length → sys.CanRead .word (f.addr sys k) sys.privileged)) ∧
    (g.broken svc = none ∧ ∀ k, k < (regsOf g.list).length → svc.CanWrite .word (g.addr svc k) svc.privileged ∧
      ∀ x, touches .word (g.addr svc k) x → kindAt svc.map x = some .ram) := by
  intro f g sys
  exact ⟨⟨by decide, by decide, by decide, by decide, by decide,
      reads_of 2 (by decide) (by decide)⟩,
    ⟨by decide, by decide, by decide, by decide,
      reads_of 2 (by decide) (by decide)⟩,
    by decide, writes_of 3 (by decide) rfl (by decide)⟩

/-- The base is second in the list and written back, R15 is last. -/
theorem witness_StoreMultipleStoresItsRegisters :
    let f : BlockForm := ⟨.al, false, false, true, 1#4, 0x8003#16⟩
    stmForm (.stmda .al true 1#4 0x8003#16) = some f ∧ condPassed f.cond usr.cpsr = true ∧ f.broken usr = none ∧
    usr.pc ≠ 0xFFFFFFFC#32 ∧
    ∀ k, k < (regsOf f.list).length → usr.CanWrite .word (f.addr usr k) usr.privileged ∧
      ∀ x, touches .word (f.addr usr k) x → kindAt usr.map x = some .ram := by
  intro f
  exact ⟨rfl, by decide, by decide, by decide, writes_of 3 (by decide) rfl (by decide)⟩

/-- The three restrictions, User mode and write-back. -/
theorem witness_BlockTransferRestrictions :
    let m : State := { svc with misaligned := .refuse }
    condPassed .al svc.cpsr = true ∧ condPassed .al usr.cpsr = true ∧
    (⟨.al, true, true, false, 1#4, 0#16⟩ : BlockForm).broken svc = some .emptyList ∧
    (⟨.al, true, true, false, 15#4, 1#16⟩ : BlockForm).broken svc = some .baseR15 ∧
    (⟨.al, true, true, false, 3#4, 1#16⟩ : BlockForm).broken m = some .unalignedWord ∧
    ldmForm (.ldmib .al false 1#4 0#16) = some ⟨.al, true, true, false, 1#4, 0#16⟩ ∧
    svc.spsr.isSome = true ∧ svc.privileged = true ∧ usr.cpsr.m = 0b10000#5 ∧ svc.cpsr.m ≠ 0b10000#5 :=
  ⟨by decide, by decide, by decide, by decide, by decide, rfl, by decide, by decide, by decide, by decide⟩

/-- The second of three transfers aborts, the first of all; and in Supervisor mode the second of the restoring LDM and of the
user-bank LDM. -/
theorem witness_LoadMultipleDataAbort :
    let s : State := { usr with aborts := [⟨.read, 0x2004#32, .word, false⟩] }
    let t : State := { svc with aborts := [⟨.read, 0x2004#32, .word, true⟩] }
    let f : BlockForm := ⟨.al, false, true, true, 1#4, 0x0007#16⟩
    let g : BlockForm := ⟨.al, true, true, true, 1#4, 0x0007#16⟩
    let r : BlockForm := ⟨.al, false, true, true, 1#4, 0x8001#16⟩
    let u : BlockForm := ⟨.al, false, true, false, 1#4, 0x6000#16⟩
    (ldmAny (.ldmia .al true 1#4 0x0007#16) s = some (f, bank s.cpsr.m) ∧ condPassed f.cond s.cpsr = true ∧
      sBitAllowed (.ldmia .al true 1#4 0x0007#16) s = true ∧ f.broken s = none ∧
      1 < (regsOf f.list).length ∧ (∀ j, j < 1 → s.CanRead .word (f.addr s j) s.privileged) ∧
      s.abortsAccess .read (f.addr s 1) .word s.privileged = true) ∧
    (ldmAny (.ldmib .al true 1#4 0x0007#16) s = some (g, bank s.cpsr.m) ∧ g.broken s = none ∧
      0 < (regsOf g.list).length ∧ s.abortsAccess .read (g.addr s 0) .word s.privileged = true) ∧
    (ldmAny (.ldmRestore .al false true true 1#4 0x8001#16) t = some (r, bank t.cpsr.m) ∧
      condPassed r.cond t.cpsr = true ∧ sBitAllowed (.ldmRestore .al false true true 1#4 0x8001#16) t = true ∧
      r.broken t = none ∧ 1 < (regsOf r.list).length ∧ (∀ j, j < 1 → t.CanRead .word (r.addr t j) t.privileged) ∧
      t.abortsAccess .read (r.addr t 1) .word t.privileged = true) ∧
    (ldmAny (.ldmUser .al false true false 1#4 0x6000#16) t = some (u, userBank) ∧
      sBitAllowed (.ldmUser .al false true false 1#4 0x6000#16) t = true ∧
      u.broken t = none ∧ 1 < (regsOf u.list).length ∧ (∀ j, j < 1 → t.CanRead .word (u.addr t j) t.privileged) ∧
      t.abortsAccess .read (u.addr t 1) .word t.privileged = true) := by
  intro s t f g r u
  have first : ∀ {x : State} {e : BlockForm}, readable x .word (e.addr x 0) x.privileged = true →
      ∀ j, j < 1 → x.CanRead .word (e.addr x j) x.privileged := by
    intro x e h j hj
    obtain rfl : j = 0 := by omega
    exact canRead_of h
  exact ⟨⟨rfl, by decide, by decide, by decide, by decide, first (by decide), by decide⟩,
    ⟨rfl, by decide, by decide, by decide⟩,
    ⟨rfl, by decide, by decide, by decide, by decide, first (by decide), by decide⟩,
    ⟨rfl, by decide, by decide, by decide, first (by decide), by decide⟩⟩

/-- The first of two words aborts, the second is stored, by STM and by user-bank STM. -/
theorem witness_StoreMultipleDataAbort :
    let s : State := { svc with aborts := [⟨.write, 0x2000#32, .word, true⟩] }
    let f : BlockForm := ⟨.al, false, true, true, 1#4, 0x0003#16⟩
    let g : BlockForm := ⟨.al, false, true, false, 1#4, 0x6000#16⟩
    let met : Instr → BlockForm → (Reg → Word) → Prop := fun i e value =>
      stmAny i s = some (e, value) ∧ condPassed e.cond s.cpsr = true ∧ sBitAllowed i s = true ∧ e.broken s = none ∧
      (∀ k, k < (regsOf e.list).length → s.abortsAccess .write (e.addr s k) .word s.privileged = true ∨
        (s.CanWrite .word (e.addr s k) s.privileged ∧
          ∀ x, touches .word (e.addr s k) x → kindAt s.map x = some .ram)) ∧
      (∃ k, k < (regsOf e.list).length ∧ s.abortsAccess .write (e.addr s k) .word s.privileged = true)
    met (.stmia .al true 1#4 0x0003#16) f (s.readReg 12#32) ∧
    met (.stmUser .al false true false 1#4 0x6000#16) g s.readUserReg := by
  intro s f g met
  have words : ∀ {e : BlockForm}, (regsOf e.list).length = 2 →
      (∀ k, k < 2 → s.abortsAccess .write (e.addr s k) .word s.privileged = true ∨
        writable s .word (e.addr s k) s.privileged = true) →
      ∀ k, k < (regsOf e.list).length → s.abortsAccess .write (e.addr s k) .word s.privileged = true ∨
        (s.CanWrite .word (e.addr s k) s.privileged ∧
          ∀ x, touches .word (e.addr s k) x → kindAt s.map x = some .ram) := by
    intro e hn h k hk
    rcases h k (hn ▸ hk) with h | h
    · exact .inl h
    · exact .inr ⟨canWrite_of h, ram_of rfl _ _⟩
  exact ⟨⟨rfl, by decide, by decide, by decide, words (by decide) (by decide), 0, by decide, by decide⟩,
    ⟨rfl, by decide, by decide, by decide, words (by decide) (by decide), 0, by decide, by decide⟩⟩

theorem witness_SwapExchangesRegisterAndMemory :
    usr.readReg 8#32 3#4 = 0x2001#32 ∧ condPassed .al usr.cpsr = true ∧ (3#4 : Reg) ≠ 15#4 ∧ (0#4 : Reg) ≠ 15#4 ∧
    usr.pc ≠ 0xFFFFFFFC#32 ∧ usr.CanRead .word 0x2001#32 usr.privileged ∧ usr.CanWrite .word 0x2001#32 usr.privileged ∧
    usr.CanRead .byte 0x2001#32 usr.privileged ∧ usr.CanWrite .byte 0x2001#32 usr.privileged ∧
    usr.refusesUnaligned 0x2001#32 = false ∧ ∀ z x, touches z 0x2001#32 x → kindAt usr.map x = some .ram :=
  ⟨by decide, by decide, by decide, by decide, by decide, canRead_of (by decide), canWrite_of (by decide),
    canRead_of (by decide), canWrite_of (by decide), by decide, fun z => ram_of rfl z _⟩

/-- The read aborts; the read is done and the write aborts; an unaligned address that is refused. -/
theorem witness_SwapAbortsAsAWhole :
    let r : State := { usr with aborts := [⟨.read, 0x2000#32, .word, false⟩, ⟨.read, 0x2000#32, .byte, false⟩] }
    let w : State := { usr with aborts := [⟨.write, 0x2000#32, .word, false⟩, ⟨.write, 0x2000#32, .byte, false⟩] }
    let m : State := { usr with misaligned := .refuse }
    condPassed .al usr.cpsr = true ∧ (1#4 : Reg) ≠ 15#4 ∧ (0#4 : Reg) ≠ 15#4 ∧ (3#4 : Reg) ≠ 15#4 ∧
    m.refusesUnaligned (m.readReg 8#32 3#4) = true ∧
    r.abortsAccess .read (r.readReg 8#32 1#4) .word r.privileged = true ∧
    r.abortsAccess .read (r.readReg 8#32 1#4) .byte r.privileged = true ∧
    r.refusesUnaligned (r.readReg 8#32 1#4) = false ∧ w.refusesUnaligned (w.readReg 8#32 1#4) = false ∧
    ((∃ d s1, loadUnit .word (w.readReg 8#32 1#4) w.privileged w = .done d s1) ∧
      w.abortsAccess .write (w.readReg 8#32 1#4) .word w.privileged = true) ∧
    ((∃ d s1, loadUnit .byte (w.readReg 8#32 1#4) w.privileged w = .done d s1) ∧
      w.abortsAccess .write (w.readReg 8#32 1#4) .byte w.privileged = true) :=
  ⟨by decide, by decide, by decide, by decide, by decide, by decide, by decide, by decide, by decide,
    ⟨⟨_, _, rfl⟩, by decide⟩, ⟨_, _, rfl⟩, by decide⟩

/-- ULCON0 (both ways, and as a word at an unaligned address), UTRSTAT0 (read only), UTXH0 (write only), and addresses that are
listed with another unit or not at all. -/
theorem witness_SpecialRegisterAccess :
    inSfrWindow 0x01d00000#32 = true ∧ usr.abortsAccess .read 0x01d00000#32 .word false = false ∧
    usr.abortsAccess .write 0x01d00000#32 .word false = false ∧
    overlapsPrefetch usr.pc (alignDown .word 0x01d00000#32) 4 = false ∧
    (sfrRow usr.bigend .word (alignDown .word 0x01d00000#32)).map (fun r => (r.readable, r.writable)) = some (true, true) ∧
    inSfrWindow 0x01d00003#32 = true ∧
    (sfrRow usr.bigend .word (alignDown .word 0x01d00003#32)).map (fun r => r.name) = some .ulcon0 ∧
    inSfrWindow 0x01d00010#32 = true ∧
    (sfrRow usr.bigend .word (alignDown .word 0x01d00010#32)).map (fun r => (r.readable, r.writable)) = some (true, false) ∧
    inSfrWindow 0x01d00020#32 = true ∧
    (sfrRow usr.bigend .byte (alignDown .byte 0x01d00020#32)).map (fun r => (r.readable, r.writable)) = some (false, true) ∧
    inSfrWindow 0x01c00000#32 = true ∧ sfrRow usr.bigend .byte (alignDown .byte 0x01c00000#32) = none ∧
    inSfrWindow 0x01ffffff#32 = true ∧ sfrRow usr.bigend .byte (alignDown .byte 0x01ffffff#32) = none := by decide

/-- User mode at 0x8000, R1 at ULCON0, R3 one byte above it, R4 at UTRSTAT0 (read only), R5 at UTXH0 (write only). -/
def uart : State :=
  at_ 0x00000010#32 0x8000#32
    [(0#4, 5#32), (1#4, 0x01d00000#32), (3#4, 0x01d00001#32), (4#4, 0x01d00010#32), (5#4, 0x01d00020#32)]

/-- LDR with write-back, LDR PC, LDRB of a write-only register; STR at an unaligned address, STR to a read-only register; SWP on a
register that is both, and on one that is not. -/
theorem witness_SpecialRegisterTransfers :
    let loads : Instr → (SfrRow → Prop) → Prop := fun i p =>
      ∃ f, loadForm i uart = some f ∧ condPassed f.cond uart.cpsr = true ∧ f.broken = none ∧
        inSfrWindow f.x.addr = true ∧ uart.abortsAccess .read f.x.addr f.kind.size f.priv = false ∧
        (f.kind.size = .half → f.x.addr.getLsbD 0 = false) ∧
        ∃ r, sfrRow uart.bigend f.kind.size (alignDown f.kind.size f.x.addr) = some r ∧ p r
    let stores : Instr → (SfrRow → Prop) → Prop := fun i p =>
      ∃ f, storeForm i uart = some f ∧ condPassed f.cond uart.cpsr = true ∧ f.broken = none ∧
        inSfrWindow f.x.addr = true ∧ uart.abortsAccess .write f.x.addr f.kind.size f.priv = false ∧
        overlapsPrefetch uart.pc (alignDown f.kind.size f.x.addr) f.kind.size.bytes = false ∧
        (f.kind.size = .half → f.x.addr.getLsbD 0 = false) ∧ (f.kind.size = .word → uart.refusesUnaligned f.x.addr = false) ∧
        ∃ r, sfrRow uart.bigend f.kind.size (alignDown f.kind.size f.x.addr) = some r ∧ p r
    loads (.ldrImmPost .al true 1#4 0#4 4#12) (fun r => r.readable = true) ∧
    loads (.ldrImmPre .al true false 3#4 15#4 0#12) (fun r => r.readable = true) ∧
    loads (.ldrbImmPre .al true false 5#4 0#4 0#12) (fun r => r.readable = false) ∧
    stores (.strImmPost .al true 3#4 0#4 4#12) (fun r => r.writable = true) ∧
    stores (.strImmPre .al true false 4#4 0#4 0#12) (fun r => r.writable = false) ∧
    (uart.cpsr.t = false ∧ uart.pc ≠ 0xFFFFFFFC#32 ∧ condPassed .al uart.cpsr = true ∧ (0#4 : Reg) ≠ 15#4 ∧
      uart.refusesUnaligned (uart.readReg 8#32 3#4) = false ∧ inSfrWindow (uart.readReg 8#32 3#4) = true ∧
      uart.abortsAccess .read (uart.readReg 8#32 3#4) .word uart.privileged = false ∧
      uart.abortsAccess .write (uart.readReg 8#32 3#4) .word uart.privileged = false ∧
      overlapsPrefetch uart.pc (alignDown .word (uart.readReg 8#32 3#4)) 4 = false) ∧
    (∃ r, sfrRow uart.bigend .word (alignDown .word (uart.readReg 8#32 3#4)) = some r ∧ r.readable = true ∧
      r.writable = true) ∧
    (∃ r, sfrRow uart.bigend .word (alignDown .word (uart.readReg 8#32 4#4)) = some r ∧
      (r.readable && r.writable) = false) :=
  ⟨⟨_, rfl, by decide, by decide, by decide, by decide, by decide, _, rfl, by decide⟩,
    ⟨_, rfl, by decide, by decide, by decide, by decide, by decide, _, rfl, by decide⟩,
    ⟨_, rfl, by decide, by decide, by decide, by decide, by decide, _, rfl, by decide⟩,
    ⟨_, rfl, by decide, by decide, by decide, by decide, by decide, by decide, by decide, _, rfl, by decide⟩,
    ⟨_, rfl, by decide, by decide, by decide, by decide, by decide, by decide, by decide, _, rfl, by decide⟩,
    by decide, ⟨_, rfl, by decide, by decide⟩, _, rfl, by decide⟩

/-- LDMIA and STMIA of two registers at ULCON0 and UCON0, from an unaligned base. -/
theorem witness_SpecialRegisterBlockTransfers :
    let f : BlockForm := ⟨.al, false, true, true, 3#4, 0x0003#16⟩
    let rows : List SfrRow :=
      [⟨.ulcon0, .word, 0x01d00000#32, 0x01d00000#32, true, true⟩, ⟨.ucon0, .word, 0x01d00004#32, 0x01d00004#32, true, true⟩]
    condPassed f.cond uart.cpsr = true ∧ sBitAllowed (.ldmia .al true 3#4 0x0003#16) uart = true ∧
    sBitAllowed (.stmia .al true 3#4 0x0003#16) uart = true ∧ f.broken uart = none ∧ uart.pc ≠ 0xFFFFFFFC#32 ∧
    rows.length = (regsOf f.list).length ∧
    (∀ k, (h : k < rows.length) → inSfrWindow (f.addr uart k) = true ∧
      sfrRow uart.bigend .word (alignDown .word (f.addr uart k)) = some rows[k]) ∧
    ldmAny (.ldmia .al true 3#4 0x0003#16) uart = some (f, bank uart.cpsr.m) ∧ f.list.getLsbD 15 = false ∧
    stmAny (.stmia .al true 3#4 0x0003#16) uart = some (f, uart.readReg 12#32) ∧
    (∀ k, (h : k < rows.length) → rows[k].readable = true ∧ rows[k].writable = true ∧
      uart.abortsAccess .read (f.addr uart k) .word uart.privileged = false ∧
      uart.abortsAccess .write (f.addr uart k) .word uart.privileged = false ∧
      overlapsPrefetch uart.pc (alignDown .word (f.addr uart k)) 4 = false) := by
  intro f rows
  exact ⟨by decide, by decide, by decide, by decide, by decide, by decide, by decide, rfl, by decide, rfl, by decide⟩

/-- LDMIA R3,R0,R15 at ULCON0 and UCON0 from an unaligned base, with S = 0 in User mode and with S = 1 in Supervisor mode. -/
theorem witness_SpecialRegisterBlockTransfers_pc :
    let f : BlockForm := ⟨.al, false, true, true, 3#4, 0x8001#16⟩
    let sup : State := { at_ 0x00000013#32 0x8000#32 [(3#4, 0x01d00001#32)] with spsrSvc := PSR.ofWord 0x60000010#32 }
    let rows : List SfrRow :=
      [⟨.ulcon0, .word, 0x01d00000#32, 0x01d00000#32, true, true⟩, ⟨.ucon0, .word, 0x01d00004#32, 0x01d00004#32, true, true⟩]
    let words : State → Prop := fun s => ∀ k, (h : k < rows.length) → inSfrWindow (f.addr s k) = true ∧
      sfrRow s.bigend .word (alignDown .word (f.addr s k)) = some rows[k] ∧ rows[k].readable = true ∧
      s.abortsAccess .read (f.addr s k) .word s.privileged = false
    rows.length = (regsOf f.list).length ∧ f.list.getLsbD 15 = true ∧
    (condPassed f.cond uart.cpsr = true ∧ sBitAllowed (.ldmia .al true 3#4 0x8001#16) uart = true ∧ f.broken uart = none ∧
      words uart ∧ ldmForm (.ldmia .al true 3#4 0x8001#16) = some f ∧ uart.cpsr.t = false) ∧
    (condPassed f.cond sup.cpsr = true ∧ sBitAllowed (.ldmRestore f.cond f.p f.u f.w f.rn f.list) sup = true ∧
      f.broken sup = none ∧ words sup ∧ sup.spsr = some (PSR.ofWord 0x60000010#32)) := by
  intro f sup rows words
  exact ⟨by decide, by decide, ⟨by decide, by decide, by decide, by decide, rfl, by decide⟩,
    by decide, by decide, by decide, by decide, by decide⟩

/-- The bytes that a word access touches, one by one. -/
theorem touches_word {a : Word} {b : Nat} (hb : (alignDown .word a).toNat = b) {x : Nat} (hx : touches .word a x) :
    ∃ d, d < 4 ∧ x = b + d := by
  obtain ⟨h1, h2⟩ := hx
  rw [hb] at h1 h2
  exact ⟨x - b, by have : Size.word.bytes = 4 := rfl; omega, by omega⟩

/-- A word that ends in an unmapped hole, a word of refusing ROM, a word of ignoring ROM, each through LDR and STR too. -/
theorem witness_AccessesOutsideRam :
    let s : State := { at_ 0x00000010#32 0x8000#32 [(1#4, 0x1000#32), (2#4, 0x2000#32), (3#4, 0x3000#32)] with
      map := [⟨0x1000, 2, .ram⟩, ⟨0x2000, 4, .romRefusing⟩, ⟨0x3000, 4, .romIgnoring⟩] }
    let hole : Word → Prop := fun a => ∃ x, touches .word a x ∧ kindAt s.map x = none ∧
      ∀ y, touches .word a y → y < x → kindAt s.map y ≠ none
    let refusing : Word → Prop := fun a => (∀ x, touches .word a x → kindAt s.map x ≠ none) ∧
      ∃ x, touches .word a x ∧ kindAt s.map x = some .romRefusing
    let ignoring : Word → Prop := fun a => ∀ x, touches .word a x → kindAt s.map x = some .romIgnoring
    let stores : Reg → (Word → Prop) → Prop := fun rn p =>
      ∃ f, storeForm (.strImmPost .al true rn 0#4 4#12) s = some f ∧ condPassed f.cond s.cpsr = true ∧ f.broken = none ∧
        f.kind.size = .word ∧ inSfrWindow f.x.addr = false ∧ s.abortsAccess .write f.x.addr f.kind.size f.priv = false ∧
        overlapsPrefetch s.pc (alignDown f.kind.size f.x.addr) f.kind.size.bytes = false ∧
        s.refusesUnaligned f.x.addr = false ∧ p f.x.addr
    s.abortsAccess .read 0x1000#32 .word false = false ∧ s.pc ≠ 0xFFFFFFFC#32 ∧
    (∃ f, loadForm (.ldrImmPre .al true false 1#4 0#4 0#12) s = some f ∧ condPassed f.cond s.cpsr = true ∧ f.broken = none ∧
      f.kind.size = .word ∧ inSfrWindow f.x.addr = false ∧ s.abortsAccess .read f.x.addr f.kind.size f.priv = false ∧
      hole f.x.addr) ∧
    stores 1#4 hole ∧ stores 2#4 refusing ∧ stores 3#4 ignoring := by
  intro s hole refusing ignoring stores
  have hh : hole 0x1000#32 := ⟨0x1002, ⟨by decide, by decide⟩, by decide, fun y hy hlt => by
    obtain ⟨d, hd, rfl⟩ := touches_word (b := 0x1000) (by decide) hy
    exact (by decide : ∀ d, d < 2 → kindAt s.map (0x1000 + d) ≠ none) d (by omega)⟩
  have hr : refusing 0x2000#32 := ⟨fun x hx => by
    obtain ⟨d, hd, rfl⟩ := touches_word (b := 0x2000) (by decide) hx
    exact (by decide : ∀ d, d < 4 → kindAt s.map (0x2000 + d) ≠ none) d hd, 0x2000, ⟨by decide, by decide⟩, by decide⟩
  have hi : ignoring 0x3000#32 := fun x hx => by
    obtain ⟨d, hd, rfl⟩ := touches_word (b := 0x3000) (by decide) hx
    exact (by decide : ∀ d, d < 4 → kindAt s.map (0x3000 + d) = some .romIgnoring) d hd
  exact ⟨by decide, by decide, ⟨_, rfl, by decide, by decide, rfl, by decide, by decide, hh⟩,
    ⟨_, rfl, by decide, by decide, rfl, by decide, by decide, by decide, by decide, hh⟩,
    ⟨_, rfl, by decide, by decide, rfl, by decide, by decide, by decide, by decide, hr⟩,
    ⟨_, rfl, by decide, by decide, rfl, by decide, by decide, by decide, by decide, hi⟩⟩

/-- LDM and STM whose second word lies in a hole, user-bank STM whose second word is refusing ROM, STM into ignoring ROM; SWP on a
hole, on refusing and on ignoring ROM. -/
theorem witness_AccessesOutsideRam_blocks :
    let s : State :=
      { at_ 0x00000013#32 0x8000#32 [(1#4, 0x1000#32), (2#4, 0x2000#32), (3#4, 0x3000#32), (4#4, 0x1004#32), (5#4, 0x2004#32)] with
        map := [⟨0x1000, 4, .ram⟩, ⟨0x2000, 4, .ram⟩, ⟨0x2004, 4, .romRefusing⟩, ⟨0x3000, 8, .romIgnoring⟩] }
    let f : BlockForm := ⟨.al, false, true, true, 1#4, 0x0003#16⟩
    let g : BlockForm := ⟨.al, false, true, false, 2#4, 0x6000#16⟩
    let e : BlockForm := ⟨.al, false, true, true, 3#4, 0x0003#16⟩
    let hole : Word → Prop := fun a => ∃ x, touches .word a x ∧ kindAt s.map x = none ∧
      ∀ y, touches .word a y → y < x → kindAt s.map y ≠ none
    let refusing : Word → Prop := fun a => (∀ x, touches .word a x → kindAt s.map x ≠ none) ∧
      ∃ x, touches .word a x ∧ kindAt s.map x = some .romRefusing
    (condPassed .al s.cpsr = true ∧ sBitAllowed (.ldmia .al true 1#4 0x0003#16) s = true ∧
      sBitAllowed (.stmia .al true 1#4 0x0003#16) s = true ∧ f.broken s = none ∧ 1 < (regsOf f.list).length ∧
      inSfrWindow (f.addr s 1) = false ∧ ldmAny (.ldmia .al true 1#4 0x0003#16) s = some (f, bank s.cpsr.m) ∧
      (∀ j, j < 1 → ∃ d t, loadUnit .word (f.addr s j) s.privileged s = .done d t) ∧
      s.abortsAccess .read (f.addr s 1) .word s.privileged = false ∧
      stmAny (.stmia .al true 1#4 0x0003#16) s = some (f, s.readReg 12#32) ∧
      (∀ j, j < 1 → ∃ v t, storeUnit .word (f.addr s j) v s.privileged s = .done () t) ∧
      s.abortsAccess .write (f.addr s 1) .word s.privileged = false ∧
      overlapsPrefetch s.pc (alignDown .word (f.addr s 1)) 4 = false ∧ hole (f.addr s 1)) ∧
    (sBitAllowed (.stmUser .al false true false 2#4 0x6000#16) s = true ∧ g.broken s = none ∧ 1 < (regsOf g.list).length ∧
      inSfrWindow (g.addr s 1) = false ∧
      stmAny (.stmUser .al false true false 2#4 0x6000#16) s = some (g, s.readUserReg) ∧
      (∀ j, j < 1 → ∃ v t, storeUnit .word (g.addr s j) v s.privileged s = .done () t) ∧
      s.abortsAccess .write (g.addr s 1) .word s.privileged = false ∧
      overlapsPrefetch s.pc (alignDown .word (g.addr s 1)) 4 = false ∧ refusing (g.addr s 1)) ∧
    (stmAny (.stmia .al true 3#4 0x0003#16) s = some (e, s.readReg 12#32) ∧ e.broken s = none ∧ s.pc ≠ 0xFFFFFFFC#32 ∧
      ∀ k, k < (regsOf e.list).length → s.CanWrite .word (e.addr s k) s.privileged ∧
        ∀ x, touches .word (e.addr s k) x → kindAt s.map x = some .romIgnoring) ∧
    (∀ rn : Reg, rn = 3#4 ∨ rn = 4#4 ∨ rn = 5#4 → s.refusesUnaligned (s.readReg 8#32 rn) = false ∧
      inSfrWindow (s.readReg 8#32 rn) = false ∧ s.abortsAccess .read (s.readReg 8#32 rn) .word s.privileged = false ∧
      s.abortsAccess .write (s.readReg 8#32 rn) .word s.privileged = false ∧
      overlapsPrefetch s.pc (alignDown .word (s.readReg 8#32 rn)) 4 = false) ∧
    hole (s.readReg 8#32 4#4) ∧ refusing (s.readReg 8#32 5#4) ∧
    (∀ x, touches .word (s.readReg 8#32 3#4) x → kindAt s.map x = some .romIgnoring) := by
  intro s f g e hole refusing
  have hh : hole 0x1004#32 := ⟨0x1004, ⟨by decide, by decide⟩, by decide, fun y hy hlt => by
    obtain ⟨d, -, rfl⟩ := touches_word (b := 0x1004) (by decide) hy
    omega⟩
  have hr : refusing 0x2004#32 := ⟨fun x hx => by
    obtain ⟨d, hd, rfl⟩ := touches_word (b := 0x2004) (by decide) hx
    exact (by decide : ∀ d, d < 4 → kindAt s.map (0x2004 + d) ≠ none) d hd, 0x2004, ⟨by decide, by decide⟩, by decide⟩
  have hi : ∀ a b, (alignDown .word a).toNat = b → b = 0x3000 ∨ b = 0x3004 →
      ∀ x, touches .word a x → kindAt s.map x = some .romIgnoring := fun a b hb h x hx => by
    obtain ⟨d, hd, rfl⟩ := touches_word hb hx
    rcases h with rfl | rfl
    · exact (by decide : ∀ d, d < 4 → kindAt s.map (0x3000 + d) = some .romIgnoring) d hd
    · exact (by decide : ∀ d, d < 4 → kindAt s.map (0x3004 + d) = some .romIgnoring) d hd
  have ld : ∀ {x : BlockForm}, readable s .word (x.addr s 0) s.privileged = true →
      ∀ j, j < 1 → ∃ d t, loadUnit .word (x.addr s j) s.privileged s = .done d t := by
    intro x h j hj
    obtain rfl : j = 0 := by omega
    exact ⟨_, _, loadUnit_of_canRead (canRead_of h)⟩
  have st : ∀ {x : BlockForm}, writable s .word (x.addr s 0) s.privileged = true →
      ∀ j, j < 1 → ∃ v t, storeUnit .word (x.addr s j) v s.privileged s = .done () t := by
    intro x h j hj
    obtain rfl : j = 0 := by omega
    exact ⟨0#32, _, storeUnit_of_canWrite (canWrite_of h)⟩
  refine ⟨⟨by decide, by decide, by decide, by decide, by decide, by decide, rfl, ld (by decide), by decide, rfl,
      st (by decide), by decide, by decide, hh⟩,
    ⟨by decide, by decide, by decide, by decide, rfl, st (by decide), by decide, by decide, hr⟩,
    ⟨rfl, by decide, by decide, fun k hk => ?_⟩, ?_, hh, hr, hi _ 0x3000 (by decide) (.inl rfl)⟩
  · rw [show (regsOf e.list).length = 2 by decide] at hk
    exact ⟨canWrite_of ((by decide : ∀ k, k < 2 → writable s .word (e.addr s k) s.privileged = true) k hk),
      hi _ _ rfl ((by decide : ∀ k, k < 2 → (alignDown .word (e.addr s k)).toNat = 0x3000 ∨
        (alignDown .word (e.addr s k)).toNat = 0x3004) k hk)⟩
  · rintro rn (rfl | rfl | rfl) <;> decide

/-- The first and the last byte of the two prefetched words. -/
theorem witness_StoreIntoPrefetchedWordsIsRefused :
    (∃ f, storeForm (.strbImmPre .al false false 15#4 0#4 4#12) usr = some f ∧ condPassed f.cond usr.cpsr = true ∧
      f.broken = none ∧ usr.abortsAccess .write f.x.addr f.kind.size f.priv = false ∧
      (∃ d, d < f.kind.size.bytes ∧
        (alignDown f.kind.size f.x.addr + BitVec.ofNat 32 d - (usr.pc + 4#32)).toNat < 8) ∧
      (f.kind.size = .half → f.x.addr.getLsbD 0 = false) ∧ (f.kind.size = .word → usr.refusesUnaligned f.x.addr = false)) ∧
    (∃ f, storeForm (.strbImmPre .al true false 15#4 0#4 3#12) usr = some f ∧ condPassed f.cond usr.cpsr = true ∧
      f.broken = none ∧ usr.abortsAccess .write f.x.addr f.kind.size f.priv = false ∧
      (∃ d, d < f.kind.size.bytes ∧
        (alignDown f.kind.size f.x.addr + BitVec.ofNat 32 d - (usr.pc + 4#32)).toNat < 8) ∧
      (f.kind.size = .half → f.x.addr.getLsbD 0 = false) ∧ (f.kind.size = .word → usr.refusesUnaligned f.x.addr = false)) :=
  ⟨⟨_, rfl, by decide, by decide, by decide, ⟨0, by decide, by decide⟩, by decide, by decide⟩,
    ⟨_, rfl, by decide, by decide, by decide, ⟨0, by decide, by decide⟩, by decide, by decide⟩⟩

/-- STMIA whose second word is the first of the prefetched words, user-bank STM into the last, SWP at an unaligned address of
the last. -/
theorem witness_StoreIntoPrefetchedWordsIsRefused_blocks :
    let s : State := at_ 0x00000013#32 0x8000#32 [(1#4, 0x8000#32), (2#4, 0x8008#32), (3#4, 0x800B#32)]
    let f : BlockForm := ⟨.al, false, true, true, 1#4, 0x0003#16⟩
    let g : BlockForm := ⟨.al, false, true, false, 2#4, 0x4000#16⟩
    (stmAny (.stmia .al true 1#4 0x0003#16) s = some (f, s.readReg 12#32) ∧ condPassed f.cond s.cpsr = true ∧
      sBitAllowed (.stmia .al true 1#4 0x0003#16) s = true ∧ f.broken s = none ∧ 1 < (regsOf f.list).length ∧
      (∀ j, j < 1 → ∃ v t, storeUnit .word (f.addr s j) v s.privileged s = .done () t) ∧
      s.abortsAccess .write (f.addr s 1) .word s.privileged = false ∧
      (∃ d, d < 4 ∧ (alignDown .word (f.addr s 1) + BitVec.ofNat 32 d - (s.pc + 4#32)).toNat < 8)) ∧
    (stmAny (.stmUser .al false true false 2#4 0x4000#16) s = some (g, s.readUserReg) ∧
      sBitAllowed (.stmUser .al false true false 2#4 0x4000#16) s = true ∧ g.broken s = none ∧
      0 < (regsOf g.list).length ∧ s.abortsAccess .write (g.addr s 0) .word s.privileged = false ∧
      (∃ d, d < 4 ∧ (alignDown .word (g.addr s 0) + BitVec.ofNat 32 d - (s.pc + 4#32)).toNat < 8)) ∧
    (s.refusesUnaligned (s.readReg 8#32 3#4) = false ∧
      (∃ d s1, loadUnit .word (s.readReg 8#32 3#4) s.privileged s = .done d s1) ∧
      s.abortsAccess .write (s.readReg 8#32 3#4) .word s.privileged = false ∧
      (∃ d, d < 4 ∧ (alignDown .word (s.readReg 8#32 3#4) + BitVec.ofNat 32 d - (s.pc + 4#32)).toNat < 8)) := by
  intro s f g
  refine ⟨⟨rfl, by decide, by decide, by decide, by decide, fun j hj => ?_, by decide, 0, by decide, by decide⟩,
    ⟨rfl, by decide, by decide, by decide, by decide, 3, by decide, by decide⟩,
    by decide, ⟨_, _, loadUnit_of_canRead (canRead_of (by decide))⟩, by decide, 3, by decide, by decide⟩
  obtain rfl : j = 0 := by omega
  exact ⟨0#32, _, storeUnit_of_canWrite (canWrite_of (by decide))⟩

/-- MOV R0,R13 and MOV R0,R12 after a user-bank LDM in Supervisor mode. -/
theorem witness_BankedReadAfterUserBankLoad :
    let s : State := { svc with bankHazard := true }
    let i : Instr := .movShift .al false 0#4 0#4 ⟨0#5, .lsl, 13#4⟩
    let j : Instr := .movShift .al false 0#4 0#4 ⟨0#5, .lsl, 12#4⟩
    s.bankHazard = true ∧ condPassed i.cond s.cpsr = true ∧ (∃ r ∈ i.reads, bank s.cpsr.m r ≠ userBank r) ∧
    (∀ r ∈ j.reads, bank s.cpsr.m r = userBank r) ∧ (∃ t, runInstr j s = .next t) ∧
    (∀ c p u w rn list, j ≠ .ldmUser c p u w rn list) := by
  intro s i j
  exact ⟨rfl, by decide, by decide, by decide, next_of (by decide), by intros; simp [j]⟩

/-- R13 and R0 are read by ADD R1,R13,R0; R2 is not. The user-bank STM of R14 reads R14, not R14_svc. -/
theorem witness_OnlyListedRegistersAreRead :
    let i : Instr := .addShift .al false 13#4 1#4 ⟨0#5, .lsl, 0#4⟩
    let j : Instr := .stmUser .al false true false 1#4 0x4000#16
    (∀ r ∈ i.reads, bank svc.cpsr.m r ≠ some .r2) ∧ (∀ c p u w rn list, i ≠ .stmUser c p u w rn list) ∧
    (∃ t, exec i svc = .next t) ∧
    (∀ r ∈ j.reads, bank svc.cpsr.m r ≠ some .r14svc) ∧ (∀ r ∈ regsOf 0x4000#16, userBank r ≠ some .r14svc) ∧
    (∃ t, exec j svc = .next t) :=
  ⟨by decide, by intros; simp, next_of (by decide), by decide, by decide, next_of (by decide)⟩

/-- An instruction that completes in User mode, and one that takes an exception. -/
theorem witness_UserModeIsConfined :
    usr.cpsr.m = 0b10000#5 ∧ (∃ t, exec (.msrReg .al false 0#4) usr = .next t) ∧ ∃ t, exec (.swi .al 0#24) usr = .next t :=
  ⟨by decide, next_of (by decide), next_of (by decide)⟩

/-- A store to a special register, and a load. -/
theorem witness_NoInstructionChangesTheSurroundings :
    let s : State := usr.setReg 1#4 0x01d00000#32
    (∃ t, exec (.strImmPre .al true false 1#4 0#4 0#12) s = .next t) ∧
    (∃ t, exec (.ldrImmPre .al true false 1#4 0#4 0#12) usr = .next t) ∧
    storeForm (.ldrImmPre .al true false 1#4 0#4 0#12) usr = none ∧ stmForm (.ldrImmPre .al true false 1#4 0#4 0#12) = none :=
  ⟨next_of (by decide), next_of (by decide), rfl, rfl⟩

end Sys2Proof.Tests
end

/-! SUPPORT. The reset state, the frame of register writes and of the ends of the transfers, and the accesses of special
registers: what the obligations of 10_state.md (O8, O52, O53) rest on. -/

namespace Sys2Proof.Machine

/-! ### Reset (10_state.md R65) -/

theorem reset_inv : State.reset.Inv where
  mem_wf := reset_mem_wf
  pc_arm _ := by decide
  pc_thumb ht := absurd ht (by decide)
  hazard_bank hb := absurd hb (by decide)

/-! ### What a run of register writes leaves alone -/

/-- `t` is `s` but for the PC and the registers in `written`: `Unchanged`, with what it does not speak of. -/
structure RegsWritten (s t : State) (written : List (Option PhysReg)) : Prop extends Unchanged s t written where
  cpsr : t.cpsr = s.cpsr
  mem : t.mem = s.mem
  bankHazard : t.bankHazard = s.bankHazard
  draws : t.draws = s.draws

/-- The registers that writing a base back writes. -/
def baseWritten (s : State) (rn : Reg) (x : Indexed) : List (Option PhysReg) :=
  if x.writeBack.isSome then [bank s.cpsr.m rn] else []

theorem RegsWritten.trans {s t u : State} {w w' : List (Option PhysReg)} (h : RegsWritten s t w)
    (h' : RegsWritten t u w') : RegsWritten s u (w' ++ w) where
  regs q hq := by
    simp only [List.mem_append, not_or] at hq
    exact (h'.regs q hq.1).trans (h.regs q hq.2)
  spsrFiq := h'.spsrFiq.trans h.spsrFiq
  spsrIrq := h'.spsrIrq.trans h.spsrIrq
  spsrSvc := h'.spsrSvc.trans h.spsrSvc
  spsrAbt := h'.spsrAbt.trans h.spsrAbt
  spsrUnd := h'.spsrUnd.trans h.spsrUnd
  bigend := h'.bigend.trans h.bigend
  om := h'.om.trans h.om
  map := h'.map.trans h.map
  misaligned := h'.misaligned.trans h.misaligned
  aborts := h'.aborts.trans h.aborts
  inputs := h'.inputs.trans h.inputs
  sfrLog := h'.sfrLog.trans h.sfrLog
  cpsr := h'.cpsr.trans h.cpsr
  mem := h'.mem.trans h.mem
  bankHazard := h'.bankHazard.trans h.bankHazard
  draws := h'.draws.trans h.draws

theorem State.setPc_written (s : State) (x : Word) : RegsWritten s { s with pc := x } [] := by
  constructor
  · constructor <;> intros <;> rfl
  all_goals rfl

theorem State.setReg_written (s : State) (i : Reg) (v : Word) :
    RegsWritten s (s.setReg i v) [bank s.cpsr.m i] where
  regs _ hq := State.gpr_setReg_other s i v (by simpa using hq)
  spsrFiq := State.setReg_spsrFiq ..
  spsrIrq := State.setReg_spsrIrq ..
  spsrSvc := State.setReg_spsrSvc ..
  spsrAbt := State.setReg_spsrAbt ..
  spsrUnd := State.setReg_spsrUnd ..
  bigend := State.setReg_bigend ..
  om := State.setReg_om ..
  map := State.setReg_map ..
  misaligned := State.setReg_misaligned ..
  aborts := State.setReg_aborts ..
  inputs := State.setReg_inputs ..
  sfrLog := State.setReg_sfrLog ..
  cpsr := State.setReg_cpsr ..
  mem := State.setReg_mem ..
  bankHazard := State.setReg_bankHazard ..
  draws := State.setReg_draws ..

theorem State.writeBase_written (s : State) (rn : Reg) (x : Indexed) :
    RegsWritten s (s.writeBase rn x) (baseWritten s rn x) := by
  obtain ⟨a, wb⟩ := x
  cases wb with
  | none => exact s.setPc_written s.pc
  | some b => exact s.setReg_written rn b

/-- Seen from before an access that left the core alone, only the event log may differ besides. -/
theorem RegsWritten.unchanged_but_log {s s1 t : State} {w : List (Option PhysReg)} (hk : CoreKept s s1)
    (h : RegsWritten s1 t w) : Unchanged { s with sfrLog := t.sfrLog } t w where
  regs q hq := (h.regs q hq).trans (State.gpr_congr hk.regs q)
  spsrFiq := h.spsrFiq.trans hk.spsrFiq
  spsrIrq := h.spsrIrq.trans hk.spsrIrq
  spsrSvc := h.spsrSvc.trans hk.spsrSvc
  spsrAbt := h.spsrAbt.trans hk.spsrAbt
  spsrUnd := h.spsrUnd.trans hk.spsrUnd
  bigend := h.bigend.trans hk.bigend
  om := h.om.trans hk.om
  map := h.map.trans hk.map
  misaligned := h.misaligned.trans hk.misaligned
  aborts := h.aborts.trans hk.aborts
  inputs := h.inputs.trans hk.inputs
  sfrLog := rfl

theorem memoryKept_of_eq {s t : State} (h : t.mem = s.mem) : MemoryKept s t := fun _ => by rw [h]

/-! ### What a written register holds -/

theorem State.setReg_holds (s : State) {i : Reg} (hi : i ≠ 15#4) (v : Word) :
    Holds (s.setReg i v) (bank s.cpsr.m i) v := by
  obtain ⟨p, hp⟩ := bank_isSome s.cpsr.m hi
  exact ⟨p, hp, State.gpr_setReg_same hp v⟩

/-- A register that is not among the written ones holds what it held. -/
theorem Holds.kept {s t : State} {p : Option PhysReg} {v : Word} {w : List (Option PhysReg)} (h : Holds s p v)
    (hw : RegsWritten s t w) (hp : p ∉ w) : Holds t p v := by
  obtain ⟨q, rfl, hv⟩ := h
  exact ⟨q, rfl, (hw.regs q hp).trans hv⟩

theorem bank_ne {m : BitVec 5} {i j : Reg} (hi : i ≠ 15#4) (hij : i ≠ j) : bank m i ≠ bank m j := by
  obtain ⟨p, hp⟩ := bank_isSome m hi
  exact fun e => hij (bank_injective hp (e.symm.trans hp))

theorem State.writeBase_holds (s : State) {rn : Reg} (hn : rn ≠ 15#4) {x : Indexed} {b : Word}
    (hb : x.writeBack = some b) : Holds (s.writeBase rn x) (bank s.cpsr.m rn) b := by
  simpa only [State.writeBase, hb] using s.setReg_holds hn b

/-! ### How the completed transfers end -/

/-- Writing a register and advancing. -/
theorem advance_setReg (s : State) {rd : Reg} (hd : rd ≠ 15#4) (v : Word) (hp : s.pc ≠ 0xFFFFFFFC#32) :
    ∃ t, advance (s.setReg rd v) = .next t ∧ Advanced s t ∧ Holds t (bank s.cpsr.m rd) v ∧
      RegsWritten s t [bank s.cpsr.m rd] :=
  ⟨_, advance_of_ne (by simpa using hp), ⟨by simp, by simp⟩, s.setReg_holds hd v,
    (s.setReg_written rd v).trans (State.setPc_written _ _)⟩

theorem finishLoad_done_register (s s1 : State) (x : Indexed) (rn : Reg) {rd : Reg} (d : Word) (hd : rd ≠ 15#4) :
    finishLoad (.done d s1) x rn rd s = advance ((s1.writeBase rn x).setReg rd d) := by
  simp only [finishLoad, hd, if_false]

theorem finishLoad_done_pc (s s1 : State) (x : Indexed) (rn : Reg) (d : Word) :
    finishLoad (.done d s1) x rn 15#4 s = writePc d (s1.writeBase rn x) := by
  simp only [finishLoad, if_true]

/-- The end of a completed load of a register (44_single_data_transfer.md R355, R356). -/
theorem finishLoad_register (s s1 : State) {x : Indexed} {rn rd : Reg} (d : Word) (hd : rd ≠ 15#4)
    (hx : x.writeBack.isSome = true → rn ≠ 15#4 ∧ rd ≠ rn) (hp : s1.pc ≠ 0xFFFFFFFC#32) :
    ∃ t, finishLoad (.done d s1) x rn rd s = .next t ∧ Advanced s1 t ∧ Holds t (bank s1.cpsr.m rd) d ∧
      (∀ b, x.writeBack = some b → Holds t (bank s1.cpsr.m rn) b) ∧
      RegsWritten s1 t (bank s1.cpsr.m rd :: baseWritten s1 rn x) := by
  obtain ⟨t, hend, hadv, hrd, hwritten⟩ := advance_setReg (s1.writeBase rn x) hd d (by simpa using hp)
  simp only [State.writeBase_cpsr] at hrd hwritten
  refine ⟨t, (finishLoad_done_register s s1 x rn d hd).trans hend,
    ⟨by simpa using hadv.pc, by simpa using hadv.bankHazard⟩, hrd, fun b hb => ?_,
    (s1.writeBase_written rn x).trans hwritten⟩
  obtain ⟨hn, hdn⟩ := hx (by simp [hb])
  exact (s1.writeBase_holds hn hb).kept hwritten (by simpa using bank_ne hn hdn.symm)

/-- The end of a completed load of the PC in ARM state (40_branch.md R221). -/
theorem finishLoad_pc (s s1 : State) {x : Indexed} {rn : Reg} {d : Word} (hx : x.writeBack.isSome = true → rn ≠ 15#4)
    (ht : s1.cpsr.t = false) (ha : wordAligned d = true) :
    ∃ t, finishLoad (.done d s1) x rn 15#4 s = .next t ∧ t.pc = d ∧
      (∀ b, x.writeBack = some b → Holds t (bank s1.cpsr.m rn) b) ∧ RegsWritten s1 t (baseWritten s1 rn x) :=
  ⟨_, (finishLoad_done_pc s s1 x rn d).trans (writePc_arm (by simpa using ht) ha), rfl,
    fun _ hb => s1.writeBase_holds (hx (by simp [hb])) hb, (s1.writeBase_written rn x).trans (State.setPc_written _ _)⟩

theorem finishLoad_pc_unaligned (s s1 : State) (x : Indexed) (rn : Reg) {d : Word} (ht : s1.cpsr.t = false)
    (ha : wordAligned d = false) : finishLoad (.done d s1) x rn 15#4 s = .refused .unalignedPc := by
  simp [finishLoad_done_pc, writePc, ht, ha]

/-- The end of a completed store (44_single_data_transfer.md R355, R358). -/
theorem finishStore_done (s s1 : State) {x : Indexed} {rn : Reg} (hx : x.writeBack.isSome = true → rn ≠ 15#4)
    (hp : s1.pc ≠ 0xFFFFFFFC#32) :
    ∃ t, finishStore (.done () s1) x rn s = .next t ∧ Advanced s1 t ∧
      (∀ b, x.writeBack = some b → Holds t (bank s1.cpsr.m rn) b) ∧ RegsWritten s1 t (baseWritten s1 rn x) :=
  ⟨_, advance_of_ne (by simpa using hp), ⟨by simp, by simp⟩,
    fun _ hb => s1.writeBase_holds (hx (by simp [hb])) hb, (s1.writeBase_written rn x).trans (State.setPc_written _ _)⟩

theorem swap_done {rd : Reg} {load : State → MemResult Word} {store : State → MemResult Unit} {s s1 s2 : State}
    {d : Word} (hl : load s = .done d s1) (hs : store s1 = .done () s2) :
    swap rd load store s = advance (s2.setReg rd d) := by
  simp only [swap, hl, hs]

theorem swap_load_refused {rd : Reg} {load : State → MemResult Word} {store : State → MemResult Unit} {s : State}
    {r : Refusal} (hl : load s = .refused r) : swap rd load store s = .refused r := by
  simp only [swap, hl]

theorem swap_store_refused {rd : Reg} {load : State → MemResult Word} {store : State → MemResult Unit} {s s1 : State}
    {d : Word} {r : Refusal} (hl : load s = .done d s1) (hs : store s1 = .refused r) :
    swap rd load store s = .refused r := by
  simp only [swap, hl, hs]

/-! ### Stores and swaps over the shared operations -/

/-- The low part of a value, of a unit's width: what a store of that unit writes. -/
def lowPart (z : Size) (v : Word) : Word :=
  BitVec.ofNat 32 (v.toNat % 2 ^ (8 * z.bytes))

/-- Masking with `n` ones keeps the value modulo `2 ^ n`. -/
theorem and_lowMask (v : Word) {n : Nat} (hn : n ≤ 32) :
    v &&& BitVec.ofNat 32 (2 ^ n - 1) = BitVec.ofNat 32 (v.toNat % 2 ^ n) := by
  have hpow : 2 ^ n ≤ 2 ^ 32 := Nat.pow_le_pow_right (by omega) hn
  apply BitVec.eq_of_toNat_eq
  simp only [BitVec.toNat_and, BitVec.toNat_ofNat, Nat.mod_eq_of_lt (show 2 ^ n - 1 < 2 ^ 32 by omega),
    Nat.and_two_pow_sub_one_eq_mod]
  exact (Nat.mod_eq_of_lt (lt_of_le_of_lt (Nat.mod_le ..) v.isLt)).symm

/-- A store that no alignment rule refuses writes the low part of its value, the unit's width (20_memory.md R111,
44_single_data_transfer.md R358, R359, R368). -/
theorem storeOf_eq {z : Size} {a : Word} {s : State} (hh : z = .half → a.getLsbD 0 = false)
    (hu : z = .word → s.refusesUnaligned a = false) (v : Word) (priv : Bool) :
    storeOf z a v priv s = storeUnit z a (lowPart z v) priv s := by
  cases z with
  | byte => exact congrArg (storeUnit .byte a · priv s) (and_lowMask v (n := 8) (by omega))
  | half =>
    simp only [storeOf, storeHalf, hh rfl, Bool.false_eq_true, if_false]
    exact congrArg (storeUnit .half a · priv s) (and_lowMask v (n := 16) (by omega))
  | word =>
    simp only [storeOf, storeWord, hu rfl, Bool.false_eq_true, if_false]
    simp [lowPart, Size.bytes, Nat.mod_eq_of_lt v.isLt]

/-- SWP and SWPB, once the condition passes and no restriction is broken (46_swap_swi.md R431). -/
theorem exec_swap {c : Cond} {rn rd rm : Reg} {s : State} {byteForm : Bool} {i : Instr} {k : LoadKind} {a : Word}
    (hi : i = if byteForm then .swpb c rn rd rm else .swp c rn rd rm) (hk : k = if byteForm then .byte else .word)
    (ha : a = s.readReg 8#32 rn) (hc : condPassed c s.cpsr = true) (hn : rn ≠ 15#4) (hd : rd ≠ 15#4) (hm : rm ≠ 15#4)
    (hu : byteForm = false → s.refusesUnaligned a = false) :
    exec i s = swap rd (k.load a s.privileged) (storeOf k.size a (s.readReg 8#32 rm) s.privileged) s := by
  have hchecked : ∀ body, swapChecked rn rd rm body = body := fun body => by
    simp [swapChecked, refuseIf, hn, hd, hm]
  subst hi hk ha
  cases byteForm with
  | false =>
    simp only [Bool.false_eq_true, if_false, exec, execSwp, conditionally_pass hc, hchecked, hu rfl, refuseIf_false]
    rfl
  | true =>
    simp only [if_true, exec, execSwpb, conditionally_pass hc, hchecked]
    rfl

/-! ### Accesses of special registers -/

/-- The state after a read of a special register. -/
def State.sfrReadDone (s : State) (r : SfrRow) (z : Size) : State :=
  { s.drawn with sfrLog := s.sfrLog ++ [.read r.name z] }

/-- The state after a write of a special register. -/
def State.sfrWriteDone (s : State) (r : SfrRow) (z : Size) (v : Word) : State :=
  { s with sfrLog := s.sfrLog ++ [.write r.name z v] }

theorem State.sfrReadDone_core (s : State) (r : SfrRow) (z : Size) : CoreKept s (s.sfrReadDone r z) := by
  constructor <;> rfl

theorem State.sfrWriteDone_core (s : State) (r : SfrRow) (z : Size) (v : Word) :
    CoreKept s (s.sfrWriteDone r z v) := by
  constructor <;> rfl

/-- A read in the window at which no readable register is listed is refused (10_state.md R86). -/
theorem loadUnit_sfr_refused {z : Size} {a : Word} {priv : Bool} {s : State} (hw : inSfrWindow a = true)
    (ha : s.abortsAccess .read a z priv = false)
    (hr : ∀ r, sfrRow s.bigend z (alignDown z a) = some r → r.readable = false) :
    loadUnit z a priv s = .refused .sfrAccess := by
  cases e : sfrRow s.bigend z (alignDown z a) with
  | none => simp [loadUnit, sfrRead, hw, ha, e]
  | some r => simp [loadUnit, sfrRead, hw, ha, e, hr r e]

/-- A write in the window at which no writable register is listed is refused (10_state.md R86). -/
theorem storeUnit_sfr_refused {z : Size} {a v : Word} {priv : Bool} {s : State} (hw : inSfrWindow a = true)
    (ha : s.abortsAccess .write a z priv = false) (hp : overlapsPrefetch s.pc (alignDown z a) z.bytes = false)
    (hr : ∀ r, sfrRow s.bigend z (alignDown z a) = some r → r.writable = false) :
    storeUnit z a v priv s = .refused .sfrAccess := by
  cases e : sfrRow s.bigend z (alignDown z a) with
  | none => simp [storeUnit, sfrWrite, hw, ha, hp, e]
  | some r => simp [storeUnit, sfrWrite, hw, ha, hp, e, hr r e]

/-- A store to a listed writable special register completes with its event. -/
theorem storeOf_of_sfr {z : Size} {a v : Word} {priv : Bool} {s : State} {r : SfrRow} (hw : inSfrWindow a = true)
    (ha : s.abortsAccess .write a z priv = false) (hp : overlapsPrefetch s.pc (alignDown z a) z.bytes = false)
    (hh : z = .half → a.getLsbD 0 = false) (hu : z = .word → s.refusesUnaligned a = false)
    (hr : sfrRow s.bigend z (alignDown z a) = some r) (hd : r.writable = true) :
    storeOf z a v priv s = .done () (s.sfrWriteDone r z (lowPart z v)) :=
  (storeOf_eq hh hu v priv).trans (storeUnit_of_sfr hw ha hp hr hd)

theorem storeOf_sfr_refused {z : Size} {a v : Word} {priv : Bool} {s : State} (hw : inSfrWindow a = true)
    (ha : s.abortsAccess .write a z priv = false) (hp : overlapsPrefetch s.pc (alignDown z a) z.bytes = false)
    (hh : z = .half → a.getLsbD 0 = false) (hu : z = .word → s.refusesUnaligned a = false)
    (hr : ∀ r, sfrRow s.bigend z (alignDown z a) = some r → r.writable = false) :
    storeOf z a v priv s = .refused .sfrAccess :=
  (storeOf_eq hh hu v priv).trans (storeUnit_sfr_refused hw ha hp hr)

/-- A load whose unit is refused is refused, unless it is of a halfword at an odd address. -/
theorem LoadKind.load_refused {k : LoadKind} {a : Word} {priv : Bool} {s : State} {x : Refusal}
    (hh : k.size = .half → a.getLsbD 0 = false) (h : loadUnit k.size a priv s = .refused x) :
    k.load a priv s = .refused x := by
  cases k <;> simp only [LoadKind.size] at h hh <;>
    simp only [LoadKind.load, loadWord, loadByte, loadSignedByte, loadHalf, loadSignedHalf, h, hh, MemResult.mapValue,
      Bool.false_eq_true, if_false]

theorem exec_loadForm_sfr {i : Instr} {s : State} {f : TransferForm} {r : SfrRow} (hf : loadForm i s = some f)
    (hc : condPassed f.cond s.cpsr = true) (hb : f.broken = none) (hw : inSfrWindow f.x.addr = true)
    (ha : s.abortsAccess .read f.x.addr f.kind.size f.priv = false)
    (hh : f.kind.size = .half → f.x.addr.getLsbD 0 = false)
    (hr : sfrRow s.bigend f.kind.size (alignDown f.kind.size f.x.addr) = some r) (hd : r.readable = true) :
    exec i s = finishLoad
      (.done (f.kind.value f.x.addr ((Config.draw (8 * f.kind.size.bytes) s.draws).setWidth 32))
        (s.sfrReadDone r f.kind.size)) f.x f.rn f.rd s := by
  rw [exec_loadForm hf hc hb, LoadKind.load_of_sfr hw ha hh hr hd]
  rfl

theorem exec_storeForm_sfr {i : Instr} {s : State} {f : TransferForm} {r : SfrRow} (hf : storeForm i s = some f)
    (hc : condPassed f.cond s.cpsr = true) (hb : f.broken = none) (hw : inSfrWindow f.x.addr = true)
    (ha : s.abortsAccess .write f.x.addr f.kind.size f.priv = false)
    (hp : overlapsPrefetch s.pc (alignDown f.kind.size f.x.addr) f.kind.size.bytes = false)
    (hh : f.kind.size = .half → f.x.addr.getLsbD 0 = false)
    (hu : f.kind.size = .word → s.refusesUnaligned f.x.addr = false)
    (hr : sfrRow s.bigend f.kind.size (alignDown f.kind.size f.x.addr) = some r) (hd : r.writable = true) :
    exec i s = finishStore
      (.done () (s.sfrWriteDone r f.kind.size (lowPart f.kind.size (s.readReg 12#32 f.rd)))) f.x f.rn s := by
  rw [exec_storeForm hf hc hb, storeOf_of_sfr hw ha hp hh hu hr hd]

section
variable {k : LoadKind} {a v : Word} {priv : Bool} {s : State} {rd : Reg} (hw : inSfrWindow a = true)
  (hread : s.abortsAccess .read a k.size priv = false) (hwrite : s.abortsAccess .write a k.size priv = false)
  (hp : overlapsPrefetch s.pc (alignDown k.size a) k.size.bytes = false)
  (hh : k.size = .half → a.getLsbD 0 = false) (hu : k.size = .word → s.refusesUnaligned a = false)
include hw hread hwrite hp hh hu

/-- A swap on a register that is readable and writable records its read and then its write (46_swap_swi.md R432). -/
theorem swap_sfr_done {r : SfrRow} (hr : sfrRow s.bigend k.size (alignDown k.size a) = some r)
    (hreadable : r.readable = true) (hwritable : r.writable = true) :
    swap rd (k.load a priv) (storeOf k.size a v priv) s =
      advance (((s.sfrReadDone r k.size).sfrWriteDone r k.size (lowPart k.size v)).setReg rd
        (k.value a ((Config.draw (8 * k.size.bytes) s.draws).setWidth 32))) :=
  swap_done (LoadKind.load_of_sfr hw hread hh hr hreadable)
    (storeOf_of_sfr (s := s.sfrReadDone r k.size) hw hwrite hp hh hu hr hwritable)

/-- A swap where no register is readable and writable is refused, at its read or at its write. -/
theorem swap_sfr_refused
    (hr : ∀ r, sfrRow s.bigend k.size (alignDown k.size a) = some r → (r.readable && r.writable) = false) :
    swap rd (k.load a priv) (storeOf k.size a v priv) s = .refused .sfrAccess := by
  by_cases hlisted : ∃ r, sfrRow s.bigend k.size (alignDown k.size a) = some r ∧ r.readable = true
  · obtain ⟨r, hrow, hreadable⟩ := hlisted
    have hunwritable : ∀ r', sfrRow s.bigend k.size (alignDown k.size a) = some r' → r'.writable = false := by
      intro r' hrow'
      obtain rfl : r = r' := Option.some.inj (hrow.symm.trans hrow')
      simpa [hreadable] using hr r hrow
    exact swap_store_refused (LoadKind.load_of_sfr hw hread hh hrow hreadable)
      (storeOf_sfr_refused (s := s.sfrReadDone r k.size) hw hwrite hp hh hu hunwritable)
  · exact swap_load_refused (LoadKind.load_refused hh
      (loadUnit_sfr_refused hw hread fun r hrow => by simpa using fun h => hlisted ⟨r, hrow, h⟩))

end

/-! ### The obligations -/

/-- Settles O8. -/
theorem resetValuesAndInvariant : Obligations.ResetValuesAndInvariant :=
  ⟨rfl, rfl, rfl, rfl, rfl, reset_inv⟩

/-- Settles O52, by what one unit access does where a row is listed and where none is. -/
theorem specialRegisterAccess : Obligations.SpecialRegisterAccess := by
  intro z a v priv s hw hread hwrite hp
  refine ⟨fun r hr => ⟨fun hd => ?_, fun hd => ?_, fun hd => ?_, fun hd => ?_⟩, fun hr => ⟨?_, ?_⟩⟩
  · exact ⟨_, loadUnit_of_sfr hw hread hr hd, rfl, rfl, rfl, rfl⟩
  · exact loadUnit_sfr_refused hw hread (by simpa [hr] using hd)
  · exact ⟨_, storeUnit_of_sfr hw hwrite hp hr hd, rfl, rfl, rfl, rfl⟩
  · exact storeUnit_sfr_refused hw hwrite hp (by simpa [hr] using hd)
  · exact loadUnit_sfr_refused hw hread (by simp [hr])
  · exact storeUnit_sfr_refused hw hwrite hp (by simp [hr])

/-- Settles O53: each instruction is the shared end of its class on a unit access, which completes where a row is listed
and is refused where none is; what the ends do is said of every completed access. -/
theorem specialRegisterTransfers : Obligations.SpecialRegisterTransfers := by
  intro i s
  refine ⟨fun f hf hc hb hw ha hh => ⟨fun r v hr hd hv => ?loadListed, fun hr => ?loadRefused⟩,
    fun f hf hc hb hw ha hp hh hu => ⟨fun r hr hd hpc => ?storeListed, fun hr => ?storeRefused⟩,
    fun c rn rd rm byteForm z k a hz hk hi haddr hc hn hd hm hu hw hread hwrite hp => ?swap⟩
  case loadListed =>
    have hcore := s.sfrReadDone_core r f.kind.size
    have hbase := loadForm_writeBack hf hb
    rw [exec_loadForm_sfr hf hc hb hw ha hh hr hd, ← hv]
    refine ⟨fun hrd hpc => ?_, fun hrd ht => ?_⟩
    · obtain ⟨t, hend, hadv, hval, hheld, hwritten⟩ :=
        finishLoad_register s (s.sfrReadDone r f.kind.size) v hrd hbase hpc
      exact ⟨t, hend, ⟨hadv.pc, hadv.bankHazard⟩, hval, hheld, hwritten.cpsr, hwritten.sfrLog,
        hwritten.unchanged_but_log hcore, memoryKept_of_eq hwritten.mem, hwritten.draws⟩
    · rw [hrd]
      split
      case isTrue halign =>
        obtain ⟨t, hend, hpc, hheld, hwritten⟩ :=
          finishLoad_pc s (s.sfrReadDone r f.kind.size) (fun h => (hbase h).1) ht halign
        exact ⟨t, hend, hpc, hwritten.bankHazard, hheld, hwritten.cpsr, hwritten.sfrLog,
          hwritten.unchanged_but_log hcore, memoryKept_of_eq hwritten.mem, hwritten.draws⟩
      case isFalse halign => exact finishLoad_pc_unaligned _ _ _ _ ht (by simpa using halign)
  case loadRefused =>
    rw [exec_loadForm hf hc hb, LoadKind.load_refused hh (loadUnit_sfr_refused hw ha hr)]
    rfl
  case storeListed =>
    obtain ⟨t, hend, hadv, hheld, hwritten⟩ := finishStore_done s
      (s.sfrWriteDone r f.kind.size _) (fun h => (storeForm_writeBack hf hb h).1) hpc
    exact ⟨t, (exec_storeForm_sfr hf hc hb hw ha hp hh hu hr hd).trans hend, ⟨hadv.pc, hadv.bankHazard⟩,
      hwritten.sfrLog, hheld, hwritten.cpsr, hwritten.unchanged_but_log (s.sfrWriteDone_core ..),
      memoryKept_of_eq hwritten.mem, hwritten.draws⟩
  case storeRefused =>
    rw [exec_storeForm hf hc hb, storeOf_sfr_refused hw ha hp hh hu hr]
    rfl
  case swap =>
    have hsize : z = k.size := by rw [hz, hk]; cases byteForm <;> rfl
    have hh : k.size = .half → a.getLsbD 0 = false := by rw [hk]; cases byteForm <;> simp [LoadKind.size]
    have hword : k.size = .word → s.refusesUnaligned a = false := by
      cases byteForm with
      | false => exact fun _ => hu rfl
      | true => simp [hk, LoadKind.size]
    subst hsize
    rw [exec_swap hi hk haddr hc hn hd hm hu]
    refine ⟨fun r hr hreadable hwritable hpc => ?_, swap_sfr_refused hw hread hwrite hp hh hword⟩
    obtain ⟨t, hend, hadv, hval, hwritten⟩ := advance_setReg
      ((s.sfrReadDone r k.size).sfrWriteDone r k.size (lowPart k.size (s.readReg 8#32 rm))) hd
      (k.value a ((Config.draw (8 * k.size.bytes) s.draws).setWidth 32)) hpc
    have hcore := (s.sfrReadDone_core r k.size).trans
      (State.sfrWriteDone_core _ r k.size (lowPart k.size (s.readReg 8#32 rm)))
    rw [swap_sfr_done hw hread hwrite hp hh hword hr hreadable hwritable]
    exact ⟨t, hend, ⟨hadv.pc, hadv.bankHazard⟩, hval, hwritten.sfrLog.trans (List.append_assoc ..), hwritten.cpsr,
      hwritten.unchanged_but_log hcore, memoryKept_of_eq hwritten.mem, hwritten.draws⟩

end Sys2Proof.Machine

/-! SUPPORT. Memory as the instructions see it: the bytes of a stored word in either byte order, and halfword loads at
odd addresses: what O41 and O37 rest on. -/

namespace Sys2Proof.Machine

/-! ### The bytes of a stored word (20_memory.md R103, R106) -/

theorem Memory.readBytes_add (m : Memory) (a n k : Nat) :
    m.readBytes a (n + k) = m.readBytes a n ++ m.readBytes (a + n) k := by
  induction n generalizing a with
  | zero => simp [Memory.readBytes]
  | succ n ih => rw [Nat.add_right_comm n 1 k]; simp [Memory.readBytes, ih, Nat.add_assoc, Nat.add_comm 1 n]

@[simp] theorem Memory.readBytes_length (m : Memory) (a n : Nat) : (m.readBytes a n).length = n := by
  induction n generalizing a with
  | zero => rfl
  | succ n ih => simp [Memory.readBytes, ih]

/-- The first byte of a word laid out in memory: the lowest in little endian, the highest in big endian. -/
theorem assemble_firstByte (bigend : Bool) (v : Word) :
    (assemble bigend ((disassemble bigend 4 v).take 1)).toNat =
      if bigend then v.toNat / 2 ^ 24 else v.toNat % 2 ^ 8 := by
  have hbyte : (disassemble bigend 4 v).take 1 = disassemble bigend 1 (if bigend then v >>> 24 else v) := by
    cases bigend <;> simp [disassemble, disassembleLittle, ← BitVec.shiftRight_add]
  have hlt := v.isLt
  rw [hbyte, assemble_disassemble_byte]
  cases bigend <;> simp [Nat.shiftRight_eq_div_pow] <;> omega

/-- The last two bytes of a word laid out in memory: the high half in little endian, the low half in big endian. -/
theorem assemble_lastHalf (bigend : Bool) (v : Word) :
    (assemble bigend ((disassemble bigend 4 v).drop 2)).toNat =
      if bigend then v.toNat % 2 ^ 16 else v.toNat / 2 ^ 16 := by
  have hhalf : (disassemble bigend 4 v).drop 2 = disassemble bigend 2 (if bigend then v else v >>> 16) := by
    cases bigend <;> simp [disassemble, disassembleLittle, ← BitVec.shiftRight_add]
  have hlt := v.isLt
  rw [hhalf, assemble_disassemble_half]
  cases bigend <;> simp [Nat.shiftRight_eq_div_pow] <;> omega

section
variable {s : State} {a : Word} (hram : ∀ x, a.toNat ≤ x → x < a.toNat + 4 → s.isRam x = true) (v : Word)
include hram

/-- The bytes of a stored word, read in two runs. -/
theorem readBytes_writeMem_word {n k : Nat} (hnk : n + k = 4) :
    (s.writeMem .word a v).mem.readBytes a.toNat n = (disassemble s.bigend 4 v).take n ∧
    (s.writeMem .word a v).mem.readBytes (a.toNat + n) k = (disassemble s.bigend 4 v).drop n := by
  have hall := Memory.readBytes_writeBytes_same s.isRam (disassemble s.bigend 4 v) s.mem (a := a.toNat)
    (by simpa using hram)
  rw [disassemble_length, ← hnk, Memory.readBytes_add, hnk] at hall
  rw [← hall]
  exact ⟨(List.take_left' (by simp)).symm, (List.drop_left' (by simp)).symm⟩

theorem readMem_writeMem_byte :
    ((s.writeMem .word a v).readMem .byte a).toNat = if s.bigend then v.toNat / 2 ^ 24 else v.toNat % 2 ^ 8 := by
  rw [← assemble_firstByte, ← (readBytes_writeMem_word hram v (n := 1) (k := 3) rfl).1]
  rfl

theorem readMem_writeMem_half (ha : (a + 2#32).toNat = a.toNat + 2) :
    ((s.writeMem .word a v).readMem .half (a + 2#32)).toNat =
      if s.bigend then v.toNat % 2 ^ 16 else v.toNat / 2 ^ 16 := by
  rw [← assemble_lastHalf, ← (readBytes_writeMem_word hram v (n := 2) (k := 2) rfl).2, ← ha]
  rfl

end

theorem alignDown_word_of_aligned {a : Word} (h : wordAligned a = true) : alignDown .word a = a := by
  simp only [wordAligned, beq_iff_eq] at h
  have hlow : a[0] = false ∧ a[1] = false :=
    ⟨by simpa using congrArg (BitVec.getLsbD · 0) h, by simpa using congrArg (BitVec.getLsbD · 1) h⟩
  apply BitVec.eq_of_getLsbD_eq
  intro i hi
  simp only [alignDown, BitVec.getLsbD_and]
  interval_cases i <;> simp [hlow]

/-! ### Halfwords at odd addresses (20_memory.md R112) -/

/-- A halfword load at an odd address gives the next free value, whatever memory holds. -/
theorem LoadKind.load_odd {k : LoadKind} {a : Word} (hk : k.size = .half) (ha : a.getLsbD 0 = true) (priv : Bool)
    (s : State) : k.load a priv s = .done (Config.draw 32 s.draws) s.drawn := by
  cases k <;> simp only [LoadKind.size, reduceCtorEq] at hk <;>
    simp only [LoadKind.load, loadHalf, loadSignedHalf, ha, if_true] <;> rfl

theorem State.drawn_core (s : State) : CoreKept s s.drawn := by
  constructor <;> rfl

/-- Seen from before an access that left the core alone and recorded no event, only the written registers differ. -/
theorem RegsWritten.unchanged {s s1 t : State} {w : List (Option PhysReg)} (hk : CoreKept s s1)
    (hlog : s1.sfrLog = s.sfrLog) (h : RegsWritten s1 t w) : Unchanged s t w := by
  have hbut := h.unchanged_but_log hk
  rwa [h.sfrLog.trans hlog] at hbut

/-! ### The obligations -/

/-- Settles O41: the bytes of the stored word, cut where the part read begins or ends. -/
theorem loadAfterStore : Obligations.LoadAfterStore := by
  intro s a v halign hram
  have haligned := alignDown_word_of_aligned halign
  have hroom : a.toNat + 4 ≤ 2 ^ 32 := haligned ▸ alignDown_bytes_le .word a
  have hisRam : ∀ x, a.toNat ≤ x → x < a.toNat + 4 → s.isRam x = true := fun x hlo hhi => by
    simp [State.isRam, hram x ⟨haligned.symm ▸ hlo, haligned.symm ▸ hhi⟩]
  exact ⟨State.readMem_writeMem_word hisRam, readMem_writeMem_byte hisRam v,
    readMem_writeMem_half hisRam v (by rw [BitVec.toNat_add]; exact Nat.mod_eq_of_lt (by simp; omega))⟩

/-- Settles O37: the load gives a free value and changes nothing but the count of them, and then ends as any load. -/
theorem oddHalfwordLoadsAreFree : Obligations.OddHalfwordLoadsAreFree := by
  intro i s f hf hc hb hk ha
  have hbase := loadForm_writeBack hf hb
  have hcore := s.drawn_core
  rw [exec_loadForm hf hc hb, LoadKind.load_odd hk ha]
  refine ⟨fun hrd hpc => ?register, fun hrd ht => ?pc⟩
  case register =>
    obtain ⟨t, hend, hadv, hval, hheld, hwritten⟩ := finishLoad_register s s.drawn _ hrd hbase hpc
    exact ⟨t, hend, ⟨hadv.pc, hadv.bankHazard⟩, hval, hheld, hwritten.cpsr, hwritten.unchanged hcore rfl,
      memoryKept_of_eq hwritten.mem, hwritten.draws⟩
  case pc =>
    rw [hrd]
    split
    case isTrue halign =>
      obtain ⟨t, hend, hpc, hheld, hwritten⟩ := finishLoad_pc s s.drawn (fun h => (hbase h).1) ht halign
      exact ⟨t, hend, hpc, hwritten.cpsr, hwritten.bankHazard, hheld, hwritten.unchanged hcore rfl,
        memoryKept_of_eq hwritten.mem, hwritten.draws⟩
    case isFalse halign => exact finishLoad_pc_unaligned _ _ _ _ ht (by simpa using halign)

end Sys2Proof.Machine

/-! SUPPORT. Accesses that stop an instruction: unmapped bytes, ROM and the prefetched words, at a unit, at the words of
a block, and at the instructions that make them: what O55 and O56 rest on. -/

namespace Sys2Proof.Machine

/-! ### Stops

A fault and a refusal go through every shared operation in the same way, so they are said of together. -/

/-- A reason to stop. -/
inductive Stop where
  | fault (f : Fault)
  | refused (r : Refusal)

/-- An access that stops. -/
def Stop.access {α : Type} : Stop → MemResult α
  | .fault f => .fault f
  | .refused r => .refused r

/-- A run of block loads that stops. -/
def Stop.blockLoad : Stop → BlockLoad
  | .fault f => .fault f
  | .refused r => .refused r

/-- A run of block stores that stops. -/
def Stop.blockStore : Stop → BlockStore
  | .fault f => .fault f
  | .refused r => .refused r

/-- An instruction that stops. -/
def Stop.outcome : Stop → Outcome
  | .fault f => .fault f
  | .refused r => .refused r

theorem mapValue_stop (g : Word → Word) (x : Stop) : (Stop.access x).mapValue g = x.access := by
  cases x <;> rfl

theorem finishLoad_stop (x : Stop) (y : Indexed) (rn rd : Reg) (s : State) :
    finishLoad x.access y rn rd s = x.outcome := by
  cases x <;> rfl

theorem finishStore_stop (x : Stop) (y : Indexed) (rn : Reg) (s : State) : finishStore x.access y rn s = x.outcome := by
  cases x <;> rfl

theorem swap_load_stop {rd : Reg} {load : State → MemResult Word} {store : State → MemResult Unit} {s : State}
    {x : Stop} (hl : load s = x.access) : swap rd load store s = x.outcome := by
  cases x <;> simp only [swap, hl, Stop.access, Stop.outcome]

theorem swap_store_stop {rd : Reg} {load : State → MemResult Word} {store : State → MemResult Unit} {s s1 : State}
    {d : Word} {x : Stop} (hl : load s = .done d s1) (hs : store s1 = x.access) : swap rd load store s = x.outcome := by
  cases x <;> simp only [swap, hl, hs, Stop.access, Stop.outcome]

/-- A load whose unit stops does, unless it is of a halfword at an odd address. -/
theorem LoadKind.load_stop {k : LoadKind} {a : Word} {priv : Bool} {s : State} {x : Stop}
    (hh : k.size = .half → a.getLsbD 0 = false) (h : loadUnit k.size a priv s = x.access) :
    k.load a priv s = x.access := by
  cases k <;> simp only [LoadKind.size] at h hh <;>
    simp only [LoadKind.load, loadWord, loadByte, loadSignedByte, loadHalf, loadSignedHalf, h, hh, mapValue_stop,
      Bool.false_eq_true, if_false]

theorem exec_loadForm_stop {i : Instr} {s : State} {f : TransferForm} {x : Stop} (hf : loadForm i s = some f)
    (hc : condPassed f.cond s.cpsr = true) (hb : f.broken = none)
    (hh : f.kind.size = .half → f.x.addr.getLsbD 0 = false)
    (h : loadUnit f.kind.size f.x.addr f.priv s = x.access) : exec i s = x.outcome := by
  rw [exec_loadForm hf hc hb, LoadKind.load_stop hh h, finishLoad_stop]

theorem exec_storeForm_stop {i : Instr} {s : State} {f : TransferForm} {x : Stop} (hf : storeForm i s = some f)
    (hc : condPassed f.cond s.cpsr = true) (hb : f.broken = none)
    (hh : f.kind.size = .half → f.x.addr.getLsbD 0 = false)
    (hu : f.kind.size = .word → s.refusesUnaligned f.x.addr = false)
    (h : ∀ v, storeUnit f.kind.size f.x.addr v f.priv s = x.access) : exec i s = x.outcome := by
  rw [exec_storeForm hf hc hb, storeOf_eq hh hu, h, finishStore_stop]

/-! ### What decides how an access ends -/

/-- Two states in which every access ends alike. -/
structure SameAccess (s t : State) : Prop where
  pc : t.pc = s.pc
  cpsr : t.cpsr = s.cpsr
  bigend : t.bigend = s.bigend
  map : t.map = s.map
  aborts : t.aborts = s.aborts

theorem SameAccess.rfl {s : State} : SameAccess s s := ⟨Eq.refl _, Eq.refl _, Eq.refl _, Eq.refl _, Eq.refl _⟩

theorem SameAccess.trans {s t u : State} (h : SameAccess s t) (h' : SameAccess t u) : SameAccess s u :=
  ⟨h'.pc.trans h.pc, h'.cpsr.trans h.cpsr, h'.bigend.trans h.bigend, h'.map.trans h.map, h'.aborts.trans h.aborts⟩

theorem CoreKept.sameAccess {s t : State} (h : CoreKept s t) : SameAccess s t :=
  ⟨h.pc, h.cpsr, h.bigend, h.map, h.aborts⟩

theorem RegsOnly.sameAccess {s t : State} (h : RegsOnly s t) : SameAccess s t :=
  ⟨h.pc, h.cpsr, h.bigend, h.map, h.aborts⟩

theorem SameAccess.privileged {s t : State} (h : SameAccess s t) : t.privileged = s.privileged := by
  simp only [State.privileged, h.cpsr]

theorem SameAccess.abortsAccess {s t : State} (h : SameAccess s t) (k : AccessKind) (a : Word) (z : Size)
    (priv : Bool) : t.abortsAccess k a z priv = s.abortsAccess k a z priv := by
  simp only [State.abortsAccess, h.aborts]

/-- Two accesses that both complete, both abort, or stop for one reason. -/
inductive EndAlike {α : Type} : MemResult α → MemResult α → Prop where
  | done (a b : α) (s t : State) : EndAlike (.done a s) (.done b t)
  | aborted : EndAlike .aborted .aborted
  | stop (x : Stop) : EndAlike x.access x.access

/-- How a read ends is decided by the abort oracle, the byte order and the map. -/
theorem loadUnit_endAlike {s t : State} (h : SameAccess s t) (z : Size) (a : Word) (priv : Bool) :
    EndAlike (loadUnit z a priv s) (loadUnit z a priv t) := by
  simp only [loadUnit, sfrRead, h.abortsAccess, h.map, h.bigend]
  repeat' split
  all_goals first
    | exact .done ..
    | exact .aborted
    | exact .stop (.fault _)
    | exact .stop (.refused _)

/-- How a write ends does not depend on the value written either. -/
theorem storeUnit_endAlike {s t : State} (h : SameAccess s t) (z : Size) (a v v' : Word) (priv : Bool) :
    EndAlike (storeUnit z a v priv s) (storeUnit z a v' priv t) := by
  simp only [storeUnit, sfrWrite, h.abortsAccess, h.map, h.bigend, h.pc]
  repeat' split
  all_goals first
    | exact .done ..
    | exact .aborted
    | exact .stop (.fault _)
    | exact .stop (.refused _)

theorem EndAlike.of_done {α : Type} {r r' : MemResult α} {a : α} {s : State} (h : EndAlike r r') (hr : r = .done a s) :
    ∃ b t, r' = .done b t := by
  cases h with
  | done => exact ⟨_, _, rfl⟩
  | aborted => cases hr
  | stop x => cases x <;> cases hr

theorem EndAlike.of_stop {α : Type} {r r' : MemResult α} {x : Stop} (h : EndAlike r r') (hr : r = x.access) :
    r' = x.access := by
  cases h with
  | done => cases x <;> cases hr
  | aborted => cases x <;> cases hr
  | stop => exact hr

/-! ### The words of a block -/

/-- The address of the `k`-th word from `a`: `BlockForm.addr` of the `k`-th transfer, from the start of the block. -/
def wordAddr (a : Word) (k : Nat) : Word :=
  a + BitVec.ofNat 32 (4 * k)

@[simp] theorem wordAddr_zero (a : Word) : wordAddr a 0 = a := by
  simp [wordAddr]

theorem wordAddr_next (a : Word) (k : Nat) : wordAddr (a + 4#32) k = wordAddr a (k + 1) := by
  simp only [wordAddr, Nat.mul_succ, BitVec.ofNat_add]
  rw [BitVec.add_assoc, BitVec.add_comm 4#32]

/-- A run of block loads stops at a word whose read stops, once the reads of the earlier words complete. -/
theorem loadBlock_stops {put : State → Reg → Word → State} (hput : ∀ s i v, RegsOnly s (put s i v)) {s0 : State}
    {x : Stop} {regs : List Reg} : ∀ {k : Nat} {a : Word} (target : Option Word) {s : State}, SameAccess s0 s →
      k < regs.length →
      (∀ j, j < k → ∃ d t, loadUnit .word (wordAddr a j) s0.privileged s0 = .done d t) →
      loadUnit .word (wordAddr a k) s0.privileged s0 = x.access → loadBlock put regs a target s = x.blockLoad := by
  induction regs with
  | nil => intro k a target s _ hk; cases hk
  | cons i rest ih =>
    intro k a target s hs hk hearlier hstop
    have hlike := loadUnit_endAlike hs .word a s0.privileged
    cases k with
    | zero =>
      have hfirst := hlike.of_stop (by simpa using hstop)
      unfold loadBlock
      rw [hs.privileged, hfirst]
      cases x <;> rfl
    | succ k =>
      obtain ⟨d0, t0, hdone0⟩ := hearlier 0 (by omega)
      obtain ⟨d, s1, hdone⟩ := hlike.of_done (by simpa using hdone0)
      have hs1 : SameAccess s0 s1 := hs.trans (loadUnit_core hdone).1.sameAccess
      have hrest : ∀ (target : Option Word) {u : State}, SameAccess s0 u →
          loadBlock put rest (a + 4#32) target u = x.blockLoad := fun target u hu =>
        ih target hu (Nat.lt_of_succ_lt_succ hk) (fun j hj => wordAddr_next a j ▸ hearlier (j + 1) (by omega))
          (wordAddr_next a k ▸ hstop)
      unfold loadBlock
      rw [hs.privileged, hdone]
      dsimp only
      split
      · exact hrest _ hs1
      · exact hrest _ (hs1.trans (hput s1 i d).sameAccess)

/-- A run of block stores stops at a word whose write stops, once the writes of the earlier words complete or abort. -/
theorem storeBlock_stops {s0 : State} {x : Stop} {vs : List Word} : ∀ {k : Nat} {a : Word} (ab : Bool) {s : State},
    SameAccess s0 s → k < vs.length →
    (∀ j, j < k → s0.abortsAccess .write (wordAddr a j) .word s0.privileged = true ∨
      ∃ v t, storeUnit .word (wordAddr a j) v s0.privileged s0 = .done () t) →
    (∀ v, storeUnit .word (wordAddr a k) v s0.privileged s0 = x.access) →
    storeBlock vs a ab s = x.blockStore := by
  induction vs with
  | nil => intro k a ab s _ hk; cases hk
  | cons v rest ih =>
    intro k a ab s hs hk hearlier hstop
    cases k with
    | zero =>
      have hfirst := (storeUnit_endAlike hs .word a v v s0.privileged).of_stop (by simpa using hstop v)
      unfold storeBlock
      rw [hs.privileged, hfirst]
      cases x <;> rfl
    | succ k =>
      have hrest : ∀ (ab : Bool) {u : State}, SameAccess s0 u →
          storeBlock rest (a + 4#32) ab u = x.blockStore := fun ab u hu =>
        ih ab hu (Nat.lt_of_succ_lt_succ hk) (fun j hj => wordAddr_next a j ▸ hearlier (j + 1) (by omega))
          (fun v => wordAddr_next a k ▸ hstop v)
      unfold storeBlock
      rw [hs.privileged]
      rcases hearlier 0 (by omega) with habort | ⟨v0, t0, hdone0⟩
      · rw [storeUnit_aborted.mpr (by simpa [hs.abortsAccess] using habort)]
        exact hrest _ hs
      · obtain ⟨_, s1, hdone⟩ := (storeUnit_endAlike hs .word a v0 v s0.privileged).of_done (by simpa using hdone0)
        rw [hdone]
        exact hrest _ (hs.trans (storeUnit_core hdone).sameAccess)

/-- A run of block stores each of which completes without an effect has none. -/
theorem storeBlock_no_effect {s : State} {vs : List Word} : ∀ {a : Word},
    (∀ k, k < vs.length → ∀ v, storeUnit .word (wordAddr a k) v s.privileged s = .done () s) →
    storeBlock vs a false s = .done false s := by
  induction vs with
  | nil => intro a _; rfl
  | cons v rest ih =>
    intro a h
    have hfirst := h 0 (by simp) v
    rw [wordAddr_zero] at hfirst
    unfold storeBlock
    rw [hfirst]
    exact ih fun k hk => wordAddr_next a k ▸ h (k + 1) (by simpa using hk)

/-! ### LDM and STM over the runs -/

/-- The words that STM stores, in order (45_block_data_transfer.md R403, R405). -/
def BlockForm.words (f : BlockForm) (s : State) (value : Reg → Word) : List Word :=
  (regsOf f.list).mapIdx fun k g => f.stored s k g (value g)

@[simp] theorem BlockForm.words_length (f : BlockForm) (s : State) (value : Reg → Word) :
    (f.words s value).length = (regsOf f.list).length := by
  simp [BlockForm.words]

/-- The end of an STM (R403, R405, R410): the base is written back, and the data abort is taken if a store aborted. -/
def finishStoreBlock (f : BlockForm) (s : State) (r : BlockStore) : Outcome :=
  match r with
  | .done false s1 => advance (s1.withNewBase f.w f.rn (f.newBase s))
  | .done true s1 => dataAbort (s1.withNewBase f.w f.rn (f.newBase s))
  | .fault x => .fault x
  | .refused x => .refused x

theorem finishStoreBlock_stop (f : BlockForm) (s : State) (x : Stop) :
    finishStoreBlock f s x.blockStore = x.outcome := by
  cases x <;> rfl

theorem storedWords_eq (f : BlockForm) (s : State) :
    storedWords f.w f.rn (f.newBase s) (regsOf f.list) s = f.words s (s.readReg 12#32) := by
  unfold BlockForm.words
  cases regsOf f.list with
  | nil => rfl
  | cons first rest =>
    apply List.ext_getElem (by simp [storedWords])
    intro k hk _
    cases k <;> simp [storedWords, BlockForm.stored]

/-- Without write-back STM stores the registers as they are. -/
theorem BlockForm.words_no_writeBack {f : BlockForm} (hw : f.w = false) (s : State) (value : Reg → Word) :
    f.words s value = (regsOf f.list).map value := by
  apply List.ext_getElem (by simp)
  intro k hk _
  simp [BlockForm.words, BlockForm.stored, hw]

/-- An STM in either bank is one run of stores with its end, once no restriction is broken. -/
theorem exec_stmAny {i : Instr} {s : State} {f : BlockForm} {value : Reg → Word} (h : stmAny i s = some (f, value))
    (hc : condPassed f.cond s.cpsr = true) (hs : sBitAllowed i s = true) (hb : f.broken s = none) :
    exec i s = finishStoreBlock f s (storeBlock (f.words s value) (f.start s) false s) := by
  unfold stmAny at h
  split at h
  case h_1 c p u w rn list =>
    obtain ⟨rfl, rfl⟩ : (⟨c, p, u, w, rn, list⟩ : BlockForm) = f ∧ s.readUserReg = value := by simpa using h
    obtain ⟨hpriv, rfl⟩ : s.privileged = true ∧ w = false := by simpa [sBitAllowed] using hs
    simp only [exec, execStmUser, conditionally_pass hc, hpriv, Bool.not_true, refuseIf_false]
    refine (blockChecked_ok hb _).trans ?_
    rw [BlockForm.words_no_writeBack rfl]
    rfl
  case h_2 =>
    obtain ⟨hf, rfl⟩ : stmForm i = some f ∧ s.readReg 12#32 = value := by simpa using h
    rw [exec_stmForm hf hc, ← storedWords_eq]
    exact blockChecked_ok hb _

/-- An STM stops at a word whose write stops, once the writes of the earlier words complete or abort. -/
theorem exec_stmAny_stop {i : Instr} {s : State} {f : BlockForm} {value : Reg → Word} {k : Nat} {x : Stop}
    (h : stmAny i s = some (f, value)) (hc : condPassed f.cond s.cpsr = true) (hs : sBitAllowed i s = true)
    (hb : f.broken s = none) (hk : k < (regsOf f.list).length)
    (hearlier : ∀ j, j < k → s.abortsAccess .write (f.addr s j) .word s.privileged = true ∨
      ∃ v t, storeUnit .word (f.addr s j) v s.privileged s = .done () t)
    (hstop : ∀ v, storeUnit .word (f.addr s k) v s.privileged s = x.access) : exec i s = x.outcome := by
  rw [exec_stmAny h hc hs hb, storeBlock_stops false .rfl (by simpa using hk) hearlier hstop, finishStoreBlock_stop]

/-- The end of an LDM (R406, R410): all words loaded, or the run aborted. -/
def finishLoadBlock (finish : Option Word → State → Outcome) (abort : State → Outcome) (r : BlockLoad) : Outcome :=
  match r with
  | .done target s => finish target s
  | .aborted s => abort s
  | .fault x => .fault x
  | .refused x => .refused x

theorem finishLoadBlock_stop (finish : Option Word → State → Outcome) (abort : State → Outcome) (x : Stop) :
    finishLoadBlock finish abort x.blockLoad = x.outcome := by
  cases x <;> rfl

/-- The PC is written by `write` if a word was loaded for it (R407, R408), else it advances. -/
def pcOrAdvance (write : Word → State → Outcome) (target : Option Word) (s : State) : Outcome :=
  match target with
  | some t => write t s
  | none => advance s

/-- The run of loads of an LDM in the current mode's bank (R406). -/
def BlockForm.loads (f : BlockForm) (s : State) : BlockLoad :=
  loadBlock State.setReg (regsOf f.list) (f.start s) none (s.withNewBase f.w f.rn (f.newBase s))

/-- The run of loads of a user-bank LDM (R409). -/
def BlockForm.userLoads (f : BlockForm) (s : State) : BlockLoad :=
  loadBlock State.setUserReg (regsOf f.list) (f.start s) none s

/-- The end of an aborted LDM: the base is restored (R410). -/
def BlockForm.abortedLoad (f : BlockForm) (s : State) : State → Outcome :=
  abortedLoadBlock f.w f.rn (s.readReg 8#32 f.rn) (f.newBase s)

theorem loadMultiple_eq (f : BlockForm) (s : State) :
    loadMultiple f.p f.u f.w f.rn f.list s = blockChecked f.rn f.list s
      (finishLoadBlock (pcOrAdvance writePc) (f.abortedLoad s) (f.loads s)) := by
  refine congrArg (blockChecked f.rn f.list s) ?_
  unfold BlockForm.loads BlockForm.start BlockForm.newBase
  split <;> simp only [*] <;> rfl

theorem execLdmRestore_eq (f : BlockForm) (s : State) :
    execLdmRestore f.cond f.p f.u f.w f.rn f.list s = conditionally f.cond s (refuseIf (!s.privileged) .sBitUser
      (refuseIf s.spsr.isNone .noSpsr (blockChecked f.rn f.list s
        (finishLoadBlock (pcOrAdvance exceptionReturn) (f.abortedLoad s) (f.loads s))))) := by
  refine congrArg
    (fun body => conditionally f.cond s (refuseIf _ _ (refuseIf _ _ (blockChecked f.rn f.list s body)))) ?_
  unfold BlockForm.loads BlockForm.start BlockForm.newBase
  split <;> simp only [*] <;> rfl

theorem execLdmUser_eq (f : BlockForm) (s : State) :
    execLdmUser f.cond f.p f.u f.w f.rn f.list s = conditionally f.cond s (refuseIf (!s.privileged) .sBitUser
      (refuseIf f.w .userBankWriteBack (blockChecked f.rn f.list s
        (finishLoadBlock (fun _ s1 => advance { s1 with bankHazard := s.hasBank })
          (abortedLoadBlock false f.rn (s.readReg 8#32 f.rn) (s.readReg 8#32 f.rn)) (f.userLoads s))))) := by
  refine congrArg
    (fun body => conditionally f.cond s (refuseIf _ _ (refuseIf _ _ (blockChecked f.rn f.list s body)))) ?_
  unfold BlockForm.userLoads BlockForm.start
  split <;> simp only [*] <;> rfl

/-- An LDM in either bank stops at a word whose read stops, once the reads of the earlier words complete. -/
theorem exec_ldmAny_stop {i : Instr} {s : State} {f : BlockForm} {names : Reg → Option PhysReg} {k : Nat} {x : Stop}
    (h : ldmAny i s = some (f, names)) (hc : condPassed f.cond s.cpsr = true) (hs : sBitAllowed i s = true)
    (hb : f.broken s = none) (hk : k < (regsOf f.list).length)
    (hearlier : ∀ j, j < k → ∃ d t, loadUnit .word (f.addr s j) s.privileged s = .done d t)
    (hstop : loadUnit .word (f.addr s k) s.privileged s = x.access) : exec i s = x.outcome := by
  have hloads : f.loads s = x.blockLoad :=
    loadBlock_stops State.setReg_only none (s.withNewBase_only ..).sameAccess hk hearlier hstop
  have huser : f.userLoads s = x.blockLoad := loadBlock_stops State.setUserReg_only none .rfl hk hearlier hstop
  unfold ldmAny at h
  split at h
  case h_1 c p u w rn list =>
    obtain ⟨rfl, -⟩ : (⟨c, p, u, w, rn, list⟩ : BlockForm) = f ∧ bank s.cpsr.m = names := by simpa using h
    obtain ⟨hpriv, hspsr⟩ : s.privileged = true ∧ s.spsr.isSome = true := by simpa [sBitAllowed] using hs
    refine (execLdmRestore_eq ⟨c, p, u, w, rn, list⟩ s).trans ?_
    rw [conditionally_pass hc, hpriv, Option.isNone_eq_false_iff.mpr hspsr, blockChecked_ok hb, hloads,
      finishLoadBlock_stop]
    rfl
  case h_2 c p u w rn list =>
    obtain ⟨rfl, -⟩ : (⟨c, p, u, w, rn, list⟩ : BlockForm) = f ∧ userBank = names := by simpa using h
    obtain ⟨hpriv, rfl⟩ : s.privileged = true ∧ w = false := by simpa [sBitAllowed] using hs
    refine (execLdmUser_eq ⟨c, p, u, false, rn, list⟩ s).trans ?_
    rw [conditionally_pass hc, hpriv, blockChecked_ok hb, huser, finishLoadBlock_stop]
    rfl
  case h_3 =>
    obtain ⟨hf, -⟩ : ldmForm i = some f ∧ bank s.cpsr.m = names := by simpa using h
    rw [exec_ldmForm hf hc, loadMultiple_eq, blockChecked_ok hb, hloads, finishLoadBlock_stop]

/-! ### The prefetched words (20_memory.md R141) -/

theorem overlapsPrefetch_iff (ia : Word) (n : Nat) (a : Word) :
    overlapsPrefetch ia a n = true ↔ ∃ d, d < n ∧ (a + BitVec.ofNat 32 d - (ia + 4#32)).toNat < 8 := by
  induction n generalizing a with
  | zero => simp [overlapsPrefetch]
  | succ n ih =>
    have hnext : ∀ d, a + 1#32 + BitVec.ofNat 32 d = a + BitVec.ofNat 32 (d + 1) := fun d => by
      rw [BitVec.ofNat_add, BitVec.add_assoc, BitVec.add_comm 1#32]
    simp only [overlapsPrefetch, Bool.or_eq_true, decide_eq_true_eq, ih, hnext, BitVec.lt_def]
    constructor
    · rintro (hfirst | ⟨d, hd, hlater⟩)
      · exact ⟨0, by omega, by simpa using hfirst⟩
      · exact ⟨d + 1, by omega, hlater⟩
    · rintro ⟨d, hd, hbyte⟩
      cases d with
      | zero => exact .inl (by simpa using hbyte)
      | succ d => exact .inr ⟨d, by omega, hbyte⟩

/-- A write that is not aborted and has a byte in the prefetched words stops. -/
theorem storeUnit_prefetch_stop {z : Size} {a : Word} {priv : Bool} {s : State}
    (ha : s.abortsAccess .write a z priv = false)
    (hbyte : ∃ d, d < z.bytes ∧ (alignDown z a + BitVec.ofNat 32 d - (s.pc + 4#32)).toNat < 8) (v : Word) :
    storeUnit z a v priv s = (Stop.refused .prefetchStore).access :=
  storeUnit_prefetched ha ((overlapsPrefetch_iff ..).mpr hbyte)

/-! ### The map (20_memory.md R126) -/

theorem firstUnmapped_eq_none_iff (map : List Region) (a n : Nat) :
    firstUnmapped map a n = none ↔ ∀ x, a ≤ x → x < a + n → kindAt map x ≠ none := by
  induction n generalizing a with
  | zero => simp only [firstUnmapped, true_iff]; omega
  | succ n ih =>
    simp only [firstUnmapped]
    split
    case isTrue hnone =>
      simp only [reduceCtorEq, false_iff]
      exact fun h => h a (by omega) (by omega) (by simpa using hnone)
    case isFalse hsome =>
      rw [ih]
      refine ⟨fun h x hlo hhi => ?_, fun h x hlo hhi => h x (by omega) (by omega)⟩
      obtain rfl | hlt := Nat.eq_or_lt_of_le hlo
      · simpa using hsome
      · exact h x hlt (by omega)

theorem firstUnmapped_eq_some {map : List Region} {a n x : Nat} (hlo : a ≤ x) (hhi : x < a + n)
    (hx : kindAt map x = none) (hfirst : ∀ y, a ≤ y → y < x → kindAt map y ≠ none) :
    firstUnmapped map a n = some x := by
  induction n generalizing a with
  | zero => omega
  | succ n ih =>
    simp only [firstUnmapped]
    obtain rfl | hlt := Nat.eq_or_lt_of_le hlo
    · simp [hx]
    · have ha := hfirst a (by omega) hlt
      simp [ha, ih hlt (by omega) fun y h => hfirst y (by omega)]

theorem refusesWrite_iff (map : List Region) (a n : Nat) :
    refusesWrite map a n = true ↔ ∃ x, a ≤ x ∧ x < a + n ∧ kindAt map x = some .romRefusing := by
  induction n generalizing a with
  | zero => simp only [refusesWrite, Bool.false_eq_true, false_iff]; omega
  | succ n ih =>
    simp only [refusesWrite, Bool.or_eq_true, beq_iff_eq, ih]
    constructor
    · rintro (hfirst | ⟨x, hlo, hhi, hx⟩)
      · exact ⟨a, by omega, by omega, hfirst⟩
      · exact ⟨x, by omega, by omega, hx⟩
    · rintro ⟨x, hlo, hhi, hx⟩
      obtain rfl | hlt := Nat.eq_or_lt_of_le hlo
      · exact .inl hx
      · exact .inr ⟨x, hlt, by omega, hx⟩

theorem Memory.writeBytes_none {ok : Nat → Bool} {bytes : List Byte} {a : Nat} (m : Memory)
    (h : ∀ x, a ≤ x → x < a + bytes.length → ok x = false) : Memory.writeBytes ok m a bytes = m := by
  induction bytes generalizing a with
  | nil => rfl
  | cons b rest ih =>
    simp only [List.length_cons] at h
    simp only [Memory.writeBytes, h a (by omega) (by omega), Bool.false_eq_true, if_false]
    exact ih fun x hlo hhi => h x (by omega) (by omega)

/-! ### Accesses to what is not RAM -/

/-- Every byte of an access is ordinary memory. -/
def AllMapped (s : State) (z : Size) (a : Word) : Prop :=
  ∀ x, touches z a x → kindAt s.map x ≠ none

/-- Every byte of an access is ROM that ignores writes. -/
def AllIgnoring (s : State) (z : Size) (a : Word) : Prop :=
  ∀ x, touches z a x → kindAt s.map x = some .romIgnoring

theorem AllIgnoring.allMapped {s : State} {z : Size} {a : Word} (h : AllIgnoring s z a) : AllMapped s z a :=
  fun x hx => by simp [h x hx]

theorem firstUnmapped_of_allMapped {s : State} {z : Size} {a : Word} (h : AllMapped s z a) :
    firstUnmapped s.map (alignDown z a).toNat z.bytes = none :=
  (firstUnmapped_eq_none_iff ..).mpr fun x hlo hhi => h x ⟨hlo, hhi⟩

section
variable {z : Size} {a : Word} {priv : Bool} {s : State} (hw : inSfrWindow a = false)
include hw

theorem canRead_of_allMapped (hread : s.abortsAccess .read a z priv = false) (h : AllMapped s z a) :
    s.CanRead z a priv :=
  ⟨hread, hw, firstUnmapped_of_allMapped h⟩

/-- A read that touches an unmapped byte stops, naming the first. -/
theorem loadUnit_unmapped (hread : s.abortsAccess .read a z priv = false) {x : Nat} (hx : touches z a x)
    (hnone : kindAt s.map x = none) (hfirst : ∀ y, touches z a y → y < x → kindAt s.map y ≠ none) :
    loadUnit z a priv s = (Stop.fault (.unmappedAddress x)).access := by
  have hfound := firstUnmapped_eq_some hx.1 hx.2 hnone fun y hlo hlt => hfirst y ⟨hlo, hlt.trans hx.2⟩ hlt
  simp [loadUnit, hread, hw, hfound, Stop.access]

variable (hwrite : s.abortsAccess .write a z priv = false)
  (hp : overlapsPrefetch s.pc (alignDown z a) z.bytes = false)
include hwrite hp

/-- A write that touches an unmapped byte stops, naming the first. -/
theorem storeUnit_unmapped {x : Nat} (hx : touches z a x) (hnone : kindAt s.map x = none)
    (hfirst : ∀ y, touches z a y → y < x → kindAt s.map y ≠ none) (v : Word) :
    storeUnit z a v priv s = (Stop.fault (.unmappedAddress x)).access := by
  have hfound := firstUnmapped_eq_some hx.1 hx.2 hnone fun y hlo hlt => hfirst y ⟨hlo, hlt.trans hx.2⟩ hlt
  simp [storeUnit, hwrite, hp, hw, hfound, Stop.access]

/-- A write to mapped memory of which one byte is ROM that refuses writes stops. -/
theorem storeUnit_romRefusing (h : AllMapped s z a) (hrom : ∃ x, touches z a x ∧ kindAt s.map x = some .romRefusing)
    (v : Word) : storeUnit z a v priv s = (Stop.refused .romWrite).access := by
  obtain ⟨x, ⟨hlo, hhi⟩, hx⟩ := hrom
  have hrefused := (refusesWrite_iff s.map (alignDown z a).toNat z.bytes).mpr ⟨x, hlo, hhi, hx⟩
  simp [storeUnit, hwrite, hp, hw, firstUnmapped_of_allMapped h, hrefused, Stop.access]

theorem canWrite_of_allIgnoring (h : AllIgnoring s z a) : s.CanWrite z a priv := by
  refine ⟨hwrite, hp, hw, firstUnmapped_of_allMapped h.allMapped, ?_⟩
  rw [Bool.eq_false_iff, ne_eq, refusesWrite_iff]
  rintro ⟨x, hlo, hhi, hx⟩
  simp [h x ⟨hlo, hhi⟩] at hx

end

theorem writeMem_of_allIgnoring {s : State} {z : Size} {a : Word} (h : AllIgnoring s z a) (v : Word) :
    s.writeMem z (alignDown z a) v = s := by
  have hkept : s.mem.writeBytes s.isRam (alignDown z a).toNat (disassemble s.bigend z.bytes v) = s.mem :=
    Memory.writeBytes_none _ fun x hlo hhi => by simp [State.isRam, h x ⟨hlo, by simpa using hhi⟩]
  simp [State.writeMem, hkept]

/-- A write to ROM that ignores writes completes and changes nothing. -/
theorem storeUnit_romIgnoring {s : State} {z : Size} {a : Word} {priv : Bool} (hc : s.CanWrite z a priv)
    (h : AllIgnoring s z a) (v : Word) : storeUnit z a v priv s = .done () s := by
  rw [storeUnit_of_canWrite hc, writeMem_of_allIgnoring h]

/-! ### Swaps -/

/-- What a swap makes of the sizes and kinds of its two forms. -/
theorem swap_kind {byteForm : Bool} {z : Size} {k : LoadKind} {a : Word} {s : State}
    (hz : z = if byteForm then .byte else .word) (hk : k = if byteForm then .byte else .word)
    (hu : byteForm = false → s.refusesUnaligned a = false) :
    z = k.size ∧ (k.size = .half → a.getLsbD 0 = false) ∧ (k.size = .word → s.refusesUnaligned a = false) := by
  subst hz hk
  cases byteForm with
  | false => exact ⟨rfl, by simp [LoadKind.size], fun _ => hu rfl⟩
  | true => exact ⟨rfl, by simp [LoadKind.size], by simp [LoadKind.size]⟩

/-- A load whose unit completes does, in the same state, unless it is of a halfword at an odd address. -/
theorem LoadKind.load_done {k : LoadKind} {a d : Word} {priv : Bool} {s t : State}
    (hh : k.size = .half → a.getLsbD 0 = false) (h : loadUnit k.size a priv s = .done d t) :
    k.load a priv s = .done (k.value a d) t := by
  cases k <;> simp only [LoadKind.size] at h hh <;>
    simp only [LoadKind.load, LoadKind.value, loadWord, loadByte, loadSignedByte, loadHalf, loadSignedHalf, h, hh,
      MemResult.mapValue, Bool.false_eq_true, if_false]

/-- A swap whose read completes and whose write would stop in the state as it is stops. -/
theorem swap_write_stop {k : LoadKind} {a d v : Word} {priv : Bool} {s s1 : State} {rd : Reg} {x : Stop}
    (hh : k.size = .half → a.getLsbD 0 = false) (hu : k.size = .word → s.refusesUnaligned a = false)
    (hread : loadUnit k.size a priv s = .done d s1) (hstop : ∀ v, storeUnit k.size a v priv s = x.access) :
    swap rd (k.load a priv) (storeOf k.size a v priv) s = x.outcome := by
  have hcore := (loadUnit_core hread).1
  have hu1 : k.size = .word → s1.refusesUnaligned a = false := fun hw => by
    simpa only [State.refusesUnaligned, hcore.misaligned] using hu hw
  refine swap_store_stop (LoadKind.load_done hh hread) ?_
  rw [storeOf_eq hh hu1]
  exact (storeUnit_endAlike hcore.sameAccess k.size a _ _ priv).of_stop (hstop v)

/-! ### The end of an STM -/

theorem BlockForm.rn_ne_r15 {f : BlockForm} {s : State} (h : f.broken s = none) : f.rn ≠ 15#4 := by
  simp only [BlockForm.broken, firstBroken_cons_none] at h
  simpa using h.2.1

/-- The end of an STM of which no store aborted (45_block_data_transfer.md R403, R405). -/
theorem finishStoreBlock_done {f : BlockForm} (s s1 : State) (hn : f.rn ≠ 15#4) (hpc : s1.pc ≠ 0xFFFFFFFC#32) :
    ∃ t, finishStoreBlock f s (.done false s1) = .next t ∧ Advanced s1 t ∧
      (f.w = true → Holds t (bank s1.cpsr.m f.rn) (f.newBase s)) ∧
      RegsWritten s1 t (if f.w then [bank s1.cpsr.m f.rn] else []) := by
  cases hw : f.w with
  | false =>
    simp only [finishStoreBlock, State.withNewBase, hw]
    exact ⟨_, advance_of_ne hpc, ⟨rfl, rfl⟩, by simp, s1.setPc_written _⟩
  | true =>
    simp only [finishStoreBlock, State.withNewBase, hw, if_true]
    obtain ⟨t, hend, hadv, hval, hwritten⟩ := advance_setReg s1 hn (f.newBase s) hpc
    exact ⟨t, hend, hadv, fun _ => hval, hwritten⟩

/-! ### The obligations -/

/-- Settles O56: the write that has a byte in the window stops, and with it the instruction that makes it. -/
theorem storeIntoPrefetchedWordsIsRefused : Obligations.StoreIntoPrefetchedWordsIsRefused := by
  refine fun i s => ⟨fun f hf hc hb ha hbyte hh hu => ?single,
    fun f value k hf hc hs hb hk hearlier ha hbyte => ?block,
    fun c rn rd rm byteForm z a hz hi haddr hc hn hd hm hu hread ha hbyte => ?swap⟩
  case single => exact exec_storeForm_stop hf hc hb hh hu (storeUnit_prefetch_stop ha hbyte)
  case block => exact exec_stmAny_stop hf hc hs hb hk hearlier (storeUnit_prefetch_stop ha hbyte)
  case swap =>
    obtain ⟨rfl, hh, hword⟩ := swap_kind hz rfl hu
    obtain ⟨d, s1, hdone⟩ := hread
    rw [exec_swap hi rfl haddr hc hn hd hm hu]
    exact swap_write_stop hh hword hdone (storeUnit_prefetch_stop ha hbyte)

/-- Settles O55: what a unit access does outside RAM, and that each instruction ends as its units do. -/
theorem accessesOutsideRam : Obligations.AccessesOutsideRam := by
  refine ⟨fun z a v priv s hw hread hwrite hp => ?unit,
    fun i s f hc hb hw hh => ⟨fun hf hread x hx hnone hfirst => ?load, fun hf hwrite hp hu => ?store⟩,
    fun i s f k hc hs hb hk hw =>
      ⟨fun names hf hearlier hread x hx hnone hfirst => ?ldm, fun value hf hearlier hwrite hp => ?stm⟩,
    fun i s f value hf hc hs hb hpc hrom => ?stmIgnoring,
    fun c rn rd rm s byteForm z k i a hz hk hi haddr hc hn hd hm hu hw hread => ?swap⟩
  case unit =>
    exact ⟨fun x hx hnone hfirst =>
        ⟨loadUnit_unmapped hw hread hx hnone hfirst, storeUnit_unmapped hw hwrite hp hx hnone hfirst v⟩,
      fun hmapped hrom => storeUnit_romRefusing hw hwrite hp hmapped hrom v,
      fun hrom => storeUnit_romIgnoring (canWrite_of_allIgnoring hw hwrite hp hrom) hrom v⟩
  case load => exact exec_loadForm_stop hf hc hb hh (loadUnit_unmapped hw hread hx hnone hfirst)
  case store =>
    refine ⟨fun x hx hnone hfirst => ?_, fun hmapped hrom => ?_, fun hrom hpc => ?_⟩
    · exact exec_storeForm_stop hf hc hb hh hu (storeUnit_unmapped hw hwrite hp hx hnone hfirst)
    · exact exec_storeForm_stop hf hc hb hh hu (storeUnit_romRefusing hw hwrite hp hmapped hrom)
    · obtain ⟨t, hend, hadv, hheld, hwritten⟩ :=
        finishStore_done s s (fun h => (storeForm_writeBack hf hb h).1) hpc
      rw [exec_storeForm hf hc hb, storeOf_eq hh hu,
        storeUnit_romIgnoring (canWrite_of_allIgnoring hw hwrite hp hrom) hrom]
      exact ⟨t, hend, hadv, memoryKept_of_eq hwritten.mem, hheld, hwritten.cpsr, hwritten.toUnchanged, hwritten.draws⟩
  case ldm => exact exec_ldmAny_stop hf hc hs hb hk hearlier (loadUnit_unmapped hw hread hx hnone hfirst)
  case stm =>
    exact ⟨fun x hx hnone hfirst =>
        exec_stmAny_stop hf hc hs hb hk hearlier (storeUnit_unmapped hw hwrite hp hx hnone hfirst),
      fun hmapped hrom => exec_stmAny_stop hf hc hs hb hk hearlier (storeUnit_romRefusing hw hwrite hp hmapped hrom)⟩
  case stmIgnoring =>
    have hrun : storeBlock (f.words s value) (f.start s) false s = .done false s := storeBlock_no_effect fun k hk v =>
      storeUnit_romIgnoring (hrom k (by simpa using hk)).1 (hrom k (by simpa using hk)).2 v
    obtain ⟨t, hend, hadv, hheld, hwritten⟩ := finishStoreBlock_done s s (BlockForm.rn_ne_r15 hb) hpc
    rw [exec_stmAny hf hc hs hb, hrun]
    exact ⟨t, hend, hadv, memoryKept_of_eq hwritten.mem, hheld, hwritten.cpsr, hwritten.toUnchanged, hwritten.draws⟩
  case swap =>
    obtain ⟨rfl, hh, hword⟩ := swap_kind hz hk hu
    rw [exec_swap hi hk haddr hc hn hd hm hu]
    refine ⟨fun x hx hnone hfirst => ?_, fun hwrite hp => ⟨fun hmapped hrom => ?_, fun hrom hpc => ?_⟩⟩
    · exact swap_load_stop (LoadKind.load_stop hh (loadUnit_unmapped hw hread hx hnone hfirst))
    · exact swap_write_stop hh hword (loadUnit_of_canRead (canRead_of_allMapped hw hread hmapped))
        (storeUnit_romRefusing hw hwrite hp hmapped hrom)
    · have hdone := storeUnit_romIgnoring (canWrite_of_allIgnoring hw hwrite hp hrom) hrom
      obtain ⟨t, hend, hadv, hval, hwritten⟩ :=
        advance_setReg s hd (k.value a (s.readMem k.size (alignDown k.size a))) hpc
      rw [swap_done (LoadKind.load_of_canRead (canRead_of_allMapped hw hread (AllIgnoring.allMapped hrom)) hh)
        ((storeOf_eq hh hword _ _).trans (hdone _))]
      exact ⟨t, hend, hadv, hval, memoryKept_of_eq hwritten.mem, hwritten.cpsr, hwritten.toUnchanged, hwritten.draws⟩

end Sys2Proof.Machine

/-! SUPPORT. What no instruction changes: `exec` of every instruction as a condition, restrictions and the shared end of
its class, what those ends leave alone, and the classes that cover the instruction set: what O60 rests on. -/

namespace Sys2Proof.Machine

/-! ### Instructions with their conditions and restrictions -/

/-- The refusal of the broken restriction, if any, else the body. -/
def unlessBroken (broken : Option Refusal) (body : Outcome) : Outcome :=
  match broken with
  | some r => .refused r
  | none => body

@[simp] theorem unlessBroken_none (body : Outcome) : unlessBroken none body = body := rfl
@[simp] theorem unlessBroken_nil (body : Outcome) : unlessBroken (firstBroken []) body = body := rfl

@[simp] theorem unlessBroken_cons (b : Bool) (r : Refusal) (rest : List (Bool × Refusal)) (body : Outcome) :
    unlessBroken (firstBroken ((b, r) :: rest)) body = refuseIf b r (unlessBroken (firstBroken rest) body) := by
  cases b <;> rfl

theorem writeBackChecked_eq (wb : Bool) (rn rd : Reg) (body : Outcome) :
    writeBackChecked wb rn rd body = unlessBroken (firstBroken (writeBackRules wb rn rd)) body := by
  simp [writeBackChecked, writeBackRules]

theorem preRegChecked_eq (w : Bool) (rn rd rm : Reg) (body : Outcome) :
    preRegChecked w rn rd rm body =
      unlessBroken (firstBroken ((rm == 15#4, .offsetR15) :: writeBackRules w rn rd)) body := by
  simp [preRegChecked, writeBackChecked_eq]

theorem postRegChecked_eq (rn rd rm : Reg) (body : Outcome) :
    postRegChecked rn rd rm body = unlessBroken (firstBroken (postRegRules rn rd rm)) body := by
  simp [postRegChecked, postRegRules, writeBackChecked_eq]

theorem halfImmChecked_eq (p w : Bool) (rn rd : Reg) (body : Outcome) :
    halfImmChecked p w rn rd body = unlessBroken (firstBroken (halfImmRules p w rn rd)) body := by
  simp [halfImmChecked, halfImmRules, writeBackChecked_eq]

theorem halfRegChecked_eq (p w : Bool) (rn rd rm : Reg) (body : Outcome) :
    halfRegChecked p w rn rd rm body = unlessBroken (firstBroken (halfRegRules p w rn rd rm)) body := by
  simp [halfRegChecked, halfRegRules, writeBackChecked_eq, writeBackRules]

theorem exec_resultForm_eq {i : Instr} {s : State} {f : DataForm} (h : resultForm i s = some f) :
    exec i s = conditionally f.cond s
      (unlessBroken f.broken (writeResult f.sf f.rd (alu f.op f.op1 f.op2 s.cpsr) s)) := by
  cases i <;> simp only [resultForm, Option.some.injEq, reduceCtorEq] at h <;> subst h <;>
    simp only [unlessBroken_none, unlessBroken_cons, unlessBroken_nil] <;> rfl

theorem exec_testForm_eq {i : Instr} {s : State} {f : DataForm} (h : testForm i s = some f) :
    exec i s = conditionally f.cond s
      (unlessBroken f.broken (advance (s.setAluFlags (alu f.op f.op1 f.op2 s.cpsr)))) := by
  cases i <;> simp only [testForm, Option.some.injEq, reduceCtorEq] at h <;> subst h <;>
    simp only [unlessBroken_cons, unlessBroken_nil] <;> rfl

theorem exec_mulForm_eq {i : Instr} {s : State} {f : MulForm} (h : mulForm i s = some f) :
    exec i s = conditionally f.cond s (unlessBroken f.broken (writeProduct f.sf f.rd f.result s)) := by
  cases i <;> simp only [mulForm, Option.some.injEq, reduceCtorEq] at h <;> subst h <;>
    simp only [unlessBroken_cons, unlessBroken_nil] <;> rfl

theorem exec_loadForm_eq {i : Instr} {s : State} {f : TransferForm} (h : loadForm i s = some f) :
    exec i s = conditionally f.cond s
      (unlessBroken f.broken (finishLoad (f.kind.load f.x.addr f.priv s) f.x f.rn f.rd s)) := by
  cases i <;> simp only [loadForm, Option.some.injEq, reduceCtorEq] at h <;> subst h <;>
    simp only [← writeBackChecked_eq, ← preRegChecked_eq, ← postRegChecked_eq, ← halfImmChecked_eq,
      ← halfRegChecked_eq] <;> rfl

theorem exec_storeForm_eq {i : Instr} {s : State} {f : TransferForm} (h : storeForm i s = some f) :
    exec i s = conditionally f.cond s (unlessBroken f.broken
      (finishStore (storeOf f.kind.size f.x.addr (s.readReg 12#32 f.rd) f.priv s) f.x f.rn s)) := by
  cases i <;> simp only [storeForm, Option.some.injEq, reduceCtorEq] at h <;> subst h <;>
    simp only [← writeBackChecked_eq, ← preRegChecked_eq, ← postRegChecked_eq, ← halfImmChecked_eq,
      ← halfRegChecked_eq] <;> rfl

theorem exec_ldmForm_eq {i : Instr} {s : State} {f : BlockForm} (h : ldmForm i = some f) :
    exec i s = conditionally f.cond s (loadMultiple f.p f.u f.w f.rn f.list s) := by
  cases i <;> simp only [ldmForm, Option.some.injEq, reduceCtorEq] at h <;> subst h <;> rfl

theorem exec_stmForm_eq {i : Instr} {s : State} {f : BlockForm} (h : stmForm i = some f) :
    exec i s = conditionally f.cond s (storeMultiple f.p f.u f.w f.rn f.list s) := by
  cases i <;> simp only [stmForm, Option.some.injEq, reduceCtorEq] at h <;> subst h <;> rfl

theorem exec_trapForm_eq {i : Instr} {s : State} {c : Cond} (h : trapForm i = some c) :
    exec i s = conditionally c s (undefinedTrap s) := by
  cases i <;> simp only [trapForm, Option.some.injEq, reduceCtorEq] at h <;> subst h <;> rfl

theorem exec_longForm_eq {i : Instr} {s : State} {f : LongForm} (h : longForm i = some f) :
    exec i s = conditionally f.cond s
      (unlessBroken f.broken (writeLongProduct f.sf f.rdHi f.rdLo (BitVec.ofInt 64 (f.exact s)) s)) := by
  cases i <;> simp only [longForm, Option.some.injEq, reduceCtorEq] at h <;> subst h <;>
    simp only [LongForm.broken, unlessBroken_cons, unlessBroken_nil, exec, execUmull, execUmlal, execSmull, execSmlal,
      longChecked, LongForm.exact, unsignedProduct, signedProduct, accumulator, if_true, if_false, Bool.false_eq_true,
      Int.add_zero, BitVec.ofInt_add, ← Int.natCast_mul, BitVec.ofInt_natCast, BitVec.ofInt_toInt, BitVec.ofNat_toNat,
      BitVec.setWidth_eq]

/-! ### What stays around the core -/

/-- The pins, the map, the abort oracle, MISALIGNED_WORD and the inputs are as they were, and events were only added to
the log. -/
structure SurroundingsKept (s t : State) : Prop where
  bigend : t.bigend = s.bigend
  om : t.om = s.om
  map : t.map = s.map
  misaligned : t.misaligned = s.misaligned
  aborts : t.aborts = s.aborts
  inputs : t.inputs = s.inputs
  log : s.sfrLog <+: t.sfrLog

/-- The surroundings are kept, and so is memory. -/
structure Quiet (s t : State) : Prop extends SurroundingsKept s t where
  mem : t.mem = s.mem

theorem SurroundingsKept.trans {s t u : State} (h : SurroundingsKept s t) (h' : SurroundingsKept t u) :
    SurroundingsKept s u :=
  ⟨h'.bigend.trans h.bigend, h'.om.trans h.om, h'.map.trans h.map, h'.misaligned.trans h.misaligned,
    h'.aborts.trans h.aborts, h'.inputs.trans h.inputs, h.log.trans h'.log⟩

theorem Quiet.rfl {s : State} : Quiet s s :=
  ⟨⟨Eq.refl _, Eq.refl _, Eq.refl _, Eq.refl _, Eq.refl _, Eq.refl _, List.prefix_rfl⟩, Eq.refl _⟩

theorem Quiet.trans {s t u : State} (h : Quiet s t) (h' : Quiet t u) : Quiet s u :=
  ⟨h.toSurroundingsKept.trans h'.toSurroundingsKept, h'.mem.trans h.mem⟩

theorem State.quiet_setReg (s : State) (i : Reg) (v : Word) : Quiet s (s.setReg i v) :=
  ⟨by constructor <;> simp, by simp⟩

theorem State.quiet_setUserReg (s : State) (i : Reg) (v : Word) : Quiet s (s.setUserReg i v) :=
  ⟨by constructor <;> simp, by simp⟩

theorem State.quiet_writeBase (s : State) (rn : Reg) (x : Indexed) : Quiet s (s.writeBase rn x) :=
  ⟨by constructor <;> simp, by simp⟩

theorem State.quiet_withNewBase (s : State) (w : Bool) (rn : Reg) (b : Word) : Quiet s (s.withNewBase w rn b) :=
  ⟨by constructor <;> simp, by simp⟩

theorem State.quiet_setAluFlags (s : State) (r : AluResult) : Quiet s (s.setAluFlags r) :=
  ⟨by constructor <;> simp, by simp⟩

theorem State.quiet_setMulFlags (s : State) (r : Word) : Quiet s (s.setMulFlags r) :=
  ⟨by constructor <;> simp, by simp⟩

theorem State.quiet_setLongFlags (s : State) (r : BitVec 64) : Quiet s (s.setLongFlags r) :=
  ⟨by constructor <;> simp, by simp⟩

theorem State.quiet_drawn (s : State) : Quiet s s.drawn :=
  ⟨by constructor <;> simp, by simp⟩

theorem State.quiet_setPc (s : State) (x : Word) : Quiet s { s with pc := x } :=
  ⟨by constructor <;> simp, Eq.refl _⟩

theorem State.quiet_setCpsr (s : State) (x : PSR) : Quiet s { s with cpsr := x } :=
  ⟨by constructor <;> simp, Eq.refl _⟩

theorem State.quiet_setBankHazard (s : State) (x : Bool) : Quiet s { s with bankHazard := x } :=
  ⟨by constructor <;> simp, Eq.refl _⟩

theorem State.quiet_setSpsr (s : State) (p : PSR) : Quiet s (s.setSpsr p) := by
  unfold State.setSpsr
  split
  · exact ⟨by constructor <;> simp, by simp⟩
  · exact .rfl

theorem quiet_enterException (k : ExceptionKind) (l : Word) (s : State) : Quiet s (enterException k l s) :=
  ⟨by constructor <;> simp, by simp⟩

/-! ### Outcomes that keep a relation -/

/-- The next state of an outcome, if it has one, is related to `s`. -/
structure Keeps (R : State → State → Prop) (s : State) (o : Outcome) : Prop where
  next : ∀ t, o = .next t → R s t

theorem keeps_fault (R : State → State → Prop) (s : State) (x : Fault) : Keeps R s (.fault x) :=
  ⟨fun _ h => nomatch h⟩

theorem keeps_refused (R : State → State → Prop) (s : State) (x : Refusal) : Keeps R s (.refused x) :=
  ⟨fun _ h => nomatch h⟩

theorem keeps_next {R : State → State → Prop} {s t : State} (h : R s t) : Keeps R s (.next t) := by
  refine ⟨?_⟩
  rintro _ ⟨⟩
  exact h

section
variable {R : State → State → Prop} {s : State} {body : Outcome} (h : Keeps R s body)
include h

theorem Keeps.refuseIf (b : Bool) (r : Refusal) : Keeps R s (refuseIf b r body) :=
  ⟨fun t ht => h.next t (refuseIf_next ht).2⟩

theorem Keeps.unlessBroken (b : Option Refusal) : Keeps R s (unlessBroken b body) := by
  cases b with
  | none => exact h
  | some r => exact keeps_refused R s r

theorem Keeps.blockChecked (rn : Reg) (list : BitVec 16) : Keeps R s (blockChecked rn list s body) :=
  ((h.refuseIf _ _).refuseIf _ _).refuseIf _ _

theorem Keeps.conditionally (hadvance : Keeps R s (advance s)) (c : Cond) : Keeps R s (conditionally c s body) :=
  ⟨fun t ht => (conditionally_next ht).elim (fun hb => h.next t hb.2) (fun ha => hadvance.next t ha.2)⟩

end

theorem Keeps.surroundings {s : State} {o : Outcome} (h : Keeps Quiet s o) : Keeps SurroundingsKept s o :=
  ⟨fun t ht => (h.next t ht).toSurroundingsKept⟩

theorem Quiet.keeps {s s1 : State} {o : Outcome} (h : Quiet s s1) (ho : Keeps Quiet s1 o) : Keeps Quiet s o :=
  ⟨fun t ht => h.trans (ho.next t ht)⟩

theorem SurroundingsKept.keeps {s s1 : State} {o : Outcome} (h : SurroundingsKept s s1) (ho : Keeps Quiet s1 o) :
    Keeps SurroundingsKept s o :=
  ⟨fun t ht => h.trans (ho.next t ht).toSurroundingsKept⟩

theorem advance_keeps (s : State) : Keeps Quiet s (advance s) := by
  refine ⟨fun t ht => ?_⟩
  obtain ⟨-, rfl⟩ := advance_next_iff.mp ht
  exact s.quiet_setPc _

theorem writePc_keeps (x : Word) (s : State) : Keeps Quiet s (writePc x s) := by
  refine ⟨fun t ht => ?_⟩
  obtain ⟨-, rfl⟩ | ⟨-, -, rfl⟩ := writePc_next ht <;> exact s.quiet_setPc _

theorem exceptionReturn_keeps (x : Word) (s : State) : Keeps Quiet s (exceptionReturn x s) := by
  refine ⟨fun t ht => ?_⟩
  obtain ⟨p, -, hpc⟩ := exceptionReturn_next ht
  exact (s.quiet_setCpsr p).trans ((writePc_keeps x _).next t hpc)

theorem dataAbort_keeps (s : State) : Keeps Quiet s (dataAbort s) :=
  keeps_next (quiet_enterException ..)

/-! ### The ends of the classes -/

theorem writeResult_keeps (sf : Bool) (rd : Reg) (r : AluResult) (s : State) :
    Keeps Quiet s (writeResult sf rd r s) := by
  refine ⟨fun t ht => ?_⟩
  obtain ⟨-, -, hend⟩ | ⟨-, -, hend⟩ | ⟨-, -, hend⟩ | ⟨-, -, hend⟩ := writeResult_next ht
  · exact (exceptionReturn_keeps _ _).next t hend
  · exact (writePc_keeps _ _).next t hend
  · exact (((s.quiet_setReg ..).trans (State.quiet_setAluFlags ..)).keeps (advance_keeps _)).next t hend
  · exact ((s.quiet_setReg ..).keeps (advance_keeps _)).next t hend

theorem writeProduct_keeps (sf : Bool) (rd : Reg) (r : Word) (s : State) : Keeps Quiet s (writeProduct sf rd r s) := by
  unfold writeProduct
  split
  · exact ((s.quiet_setReg ..).trans (State.quiet_setMulFlags ..)).keeps (advance_keeps _)
  · exact (s.quiet_setReg ..).keeps (advance_keeps _)

theorem writeLongProduct_keeps (sf : Bool) (rdHi rdLo : Reg) (p : BitVec 64) (s : State) :
    Keeps Quiet s (writeLongProduct sf rdHi rdLo p s) := by
  have hregs := (s.quiet_setReg rdLo (p.extractLsb' 0 32)).trans (State.quiet_setReg _ rdHi (p.extractLsb' 32 32))
  unfold writeLongProduct
  split
  · exact (hregs.trans (State.quiet_setLongFlags ..)).keeps (advance_keeps _)
  · exact hregs.keeps (advance_keeps _)

theorem writeWholeCpsr_keeps (v : Word) (s : State) : Keeps Quiet s (writeWholeCpsr v s) := by
  refine ⟨fun t ht => ?_⟩
  obtain ⟨-, -, hend⟩ | ⟨-, hend⟩ := writeWholeCpsr_next ht <;>
    exact ((s.quiet_setCpsr _).keeps (advance_keeps _)).next t hend

theorem changeSpsr_keeps (f : PSR → PSR) (s : State) : Keeps Quiet s (changeSpsr f s) := by
  refine ⟨fun t ht => ?_⟩
  obtain ⟨p, -, hend⟩ := changeSpsr_next ht
  exact ((s.quiet_setSpsr _).keeps (advance_keeps _)).next t hend

theorem writePsrFlags_keeps (pd : Bool) (v : Word) (s : State) : Keeps Quiet s (writePsrFlags pd v s) := by
  cases pd with
  | true => exact changeSpsr_keeps _ s
  | false => exact (s.quiet_setCpsr _).keeps (advance_keeps _)

/-! ### Loads and stores -/

theorem loadUnit_quiet {z : Size} {a d : Word} {priv : Bool} {s t : State} (h : loadUnit z a priv s = .done d t) :
    Quiet s t := by
  obtain ⟨-, -, rfl⟩ | ⟨-, r, -, -, -, rfl⟩ := loadUnit_done h
  · exact .rfl
  · exact ⟨by constructor <;> simp, rfl⟩

theorem storeUnit_kept {z : Size} {a v : Word} {priv : Bool} {u : Unit} {s t : State}
    (h : storeUnit z a v priv s = .done u t) : SurroundingsKept s t := by
  obtain ⟨-, rfl⟩ | ⟨-, r, -, -, rfl⟩ := storeUnit_done h <;> constructor <;> simp

/-- A completed load is a free value, of a halfword at an odd address, or a completed read of its unit. -/
theorem LoadKind.load_done_cases {k : LoadKind} {a d : Word} {priv : Bool} {s t : State}
    (h : k.load a priv s = .done d t) : t = s.drawn ∨ ∃ d', loadUnit k.size a priv s = .done d' t := by
  have hmapped : ∀ {g : Word → Word} {r : MemResult Word}, r.mapValue g = .done d t → ∃ d', r = .done d' t :=
    fun h => (mapValue_done h).imp fun _ h => h.1
  cases k with
  | word => exact .inr (hmapped h)
  | byte => exact .inr ⟨d, h⟩
  | signedByte => exact .inr (hmapped h)
  | half =>
    simp only [LoadKind.load, loadHalf] at h
    split at h
    · cases h; exact .inl rfl
    · exact .inr ⟨d, h⟩
  | signedHalf =>
    simp only [LoadKind.load, loadSignedHalf] at h
    split at h
    · cases h; exact .inl rfl
    · exact .inr (hmapped h)

theorem LoadKind.load_quiet {k : LoadKind} {a d : Word} {priv : Bool} {s t : State} (h : k.load a priv s = .done d t) :
    Quiet s t := by
  obtain rfl | ⟨_, hunit⟩ := LoadKind.load_done_cases h
  · exact s.quiet_drawn
  · exact loadUnit_quiet hunit

theorem storeOf_kept {z : Size} {a v : Word} {priv : Bool} {s t : State} (h : storeOf z a v priv s = .done () t) :
    SurroundingsKept s t := by
  cases z with
  | byte => exact storeUnit_kept h
  | half => exact storeUnit_kept (storeHalf_done h)
  | word => exact storeUnit_kept (storeWord_done h)

theorem finishLoad_keeps {r : MemResult Word} {s : State} (hr : ∀ d t, r = .done d t → Quiet s t) (x : Indexed)
    (rn rd : Reg) : Keeps Quiet s (finishLoad r x rn rd s) := by
  refine ⟨fun t ht => ?_⟩
  obtain ⟨d, s1, hdone, ⟨-, hend⟩ | ⟨-, hend⟩⟩ | ⟨-, rfl⟩ := finishLoad_next ht
  · exact (((hr d s1 hdone).trans (State.quiet_writeBase ..)).keeps (writePc_keeps ..)).next t hend
  · have hregs := ((hr d s1 hdone).trans (State.quiet_writeBase _ rn x)).trans (State.quiet_setReg _ rd d)
    exact (hregs.keeps (advance_keeps _)).next t hend
  · exact (s.quiet_writeBase rn x).trans (quiet_enterException ..)

theorem finishStore_keeps {r : MemResult Unit} {s : State} (hr : ∀ t, r = .done () t → SurroundingsKept s t)
    (x : Indexed) (rn : Reg) : Keeps SurroundingsKept s (finishStore r x rn s) := by
  refine ⟨fun t ht => ?_⟩
  obtain ⟨s1, hdone, hend⟩ | ⟨-, rfl⟩ := finishStore_next ht
  · exact ((hr s1 hdone).keeps ((State.quiet_writeBase ..).keeps (advance_keeps _))).next t hend
  · exact ((s.quiet_writeBase rn x).trans (quiet_enterException ..)).toSurroundingsKept

theorem swap_keeps (k : LoadKind) (z : Size) (a v : Word) (priv : Bool) (rd : Reg) (s : State) :
    Keeps SurroundingsKept s (swap rd (k.load a priv) (storeOf z a v priv) s) := by
  refine ⟨fun t ht => ?_⟩
  obtain ⟨d, s1, s2, hload, hstore, hend⟩ | ⟨-, rfl⟩ := swap_next ht
  · have haccess := (LoadKind.load_quiet hload).toSurroundingsKept.trans (storeOf_kept hstore)
    exact (haccess.keeps ((State.quiet_setReg ..).keeps (advance_keeps _))).next t hend
  · exact (quiet_enterException ..).toSurroundingsKept

/-! ### Block transfers -/

theorem loadBlock_quiet {put : State → Reg → Word → State} (hput : ∀ s i v, Quiet s (put s i v)) {regs : List Reg} :
    ∀ {a : Word} {target : Option Word} {s t : State},
      (∀ x, loadBlock put regs a target s = .done x t → Quiet s t) ∧
      (loadBlock put regs a target s = .aborted t → Quiet s t) := by
  induction regs with
  | nil => exact fun {_ _ _ _} => ⟨by rintro _ ⟨⟩; exact .rfl, nofun⟩
  | cons i rest ih =>
    intro a target s t
    unfold loadBlock
    split
    · next d s1 hdone =>
      have hload := loadUnit_quiet hdone
      split
      · exact ⟨fun x h => hload.trans (ih.1 x h), fun h => hload.trans (ih.2 h)⟩
      · exact ⟨fun x h => (hload.trans (hput ..)).trans (ih.1 x h), fun h => (hload.trans (hput ..)).trans (ih.2 h)⟩
    · exact ⟨nofun, by rintro ⟨⟩; exact .rfl⟩
    · exact ⟨nofun, nofun⟩
    · exact ⟨nofun, nofun⟩

theorem storeBlock_kept {vs : List Word} : ∀ {a : Word} {ab x : Bool} {s t : State},
    storeBlock vs a ab s = .done x t → SurroundingsKept s t := by
  induction vs with
  | nil => rintro _ _ _ _ _ ⟨⟩; exact Quiet.rfl.toSurroundingsKept
  | cons v rest ih =>
    intro a ab x s t h
    unfold storeBlock at h
    split at h
    · next s1 hdone => exact (storeUnit_kept hdone).trans (ih h)
    · exact ih h
    · cases h
    · cases h

theorem abortedLoadBlock_keeps (w : Bool) (rn : Reg) (base newBase : Word) (s : State) :
    Keeps Quiet s (abortedLoadBlock w rn base newBase s) :=
  (s.quiet_setReg ..).keeps (dataAbort_keeps _)

theorem pcOrAdvance_keeps {write : Word → State → Outcome} (hwrite : ∀ x s, Keeps Quiet s (write x s))
    (target : Option Word) (s : State) : Keeps Quiet s (pcOrAdvance write target s) := by
  cases target with
  | none => exact advance_keeps s
  | some x => exact hwrite x s

theorem finishLoadBlock_keeps {put : State → Reg → Word → State} (hput : ∀ s i v, Quiet s (put s i v)) {s s0 : State}
    (h0 : Quiet s s0) {finish : Option Word → State → Outcome} {abort : State → Outcome}
    (hfinish : ∀ x s, Keeps Quiet s (finish x s)) (habort : ∀ s, Keeps Quiet s (abort s)) (regs : List Reg) (a : Word)
    (target : Option Word) : Keeps Quiet s (finishLoadBlock finish abort (loadBlock put regs a target s0)) := by
  unfold finishLoadBlock
  split
  · next hrun => exact (h0.trans ((loadBlock_quiet hput).1 _ hrun)).keeps (hfinish ..)
  · next hrun => exact (h0.trans ((loadBlock_quiet hput).2 hrun)).keeps (habort _)
  · exact keeps_fault ..
  · exact keeps_refused ..

theorem loadMultiple_keeps (f : BlockForm) (s : State) : Keeps Quiet s (loadMultiple f.p f.u f.w f.rn f.list s) := by
  rw [loadMultiple_eq]
  exact (finishLoadBlock_keeps State.quiet_setReg (s.quiet_withNewBase ..) (pcOrAdvance_keeps writePc_keeps)
    (abortedLoadBlock_keeps _ _ _ _) ..).blockChecked ..

theorem execLdmRestore_keeps (f : BlockForm) (s : State) :
    Keeps Quiet s (execLdmRestore f.cond f.p f.u f.w f.rn f.list s) := by
  rw [execLdmRestore_eq]
  exact ((((finishLoadBlock_keeps State.quiet_setReg (s.quiet_withNewBase ..) (pcOrAdvance_keeps exceptionReturn_keeps)
    (abortedLoadBlock_keeps _ _ _ _) ..).blockChecked ..).refuseIf ..).refuseIf ..).conditionally (advance_keeps s) _

theorem execLdmUser_keeps (f : BlockForm) (s : State) :
    Keeps Quiet s (execLdmUser f.cond f.p f.u f.w f.rn f.list s) := by
  rw [execLdmUser_eq]
  exact ((((finishLoadBlock_keeps State.quiet_setUserReg .rfl
    (fun _ s1 => (s1.quiet_setBankHazard _).keeps (advance_keeps _))
    (abortedLoadBlock_keeps _ _ _ _) ..).blockChecked ..).refuseIf ..).refuseIf ..).conditionally (advance_keeps s) _

theorem storeMultiple_keeps (p u w : Bool) (rn : Reg) (list : BitVec 16) (s : State) :
    Keeps SurroundingsKept s (storeMultiple p u w rn list s) := by
  refine Keeps.blockChecked ?_ rn list
  split
  case h_1 hrun => exact (storeBlock_kept hrun).keeps ((State.quiet_withNewBase ..).keeps (advance_keeps _))
  case h_2 hrun => exact (storeBlock_kept hrun).keeps ((State.quiet_withNewBase ..).keeps (dataAbort_keeps _))
  case h_3 => exact keeps_fault ..
  case h_4 => exact keeps_refused ..

theorem execStmUser_keeps (c : Cond) (p u w : Bool) (rn : Reg) (list : BitVec 16) (s : State) :
    Keeps SurroundingsKept s (execStmUser c p u w rn list s) := by
  refine ((Keeps.blockChecked ?_ rn list).refuseIf _ _).refuseIf _ _ |>.conditionally (advance_keeps s).surroundings c
  split
  case h_1 hrun => exact (storeBlock_kept hrun).keeps (advance_keeps _)
  case h_2 hrun => exact (storeBlock_kept hrun).keeps (dataAbort_keeps _)
  case h_3 => exact keeps_fault ..
  case h_4 => exact keeps_refused ..

/-! ### The instruction set by class -/

/-- The classes of instructions of which `exec` is said as a whole; every instruction is in one. -/
inductive InstrClass (s : State) : Instr → Prop where
  | result {i : Instr} {f : DataForm} (h : resultForm i s = some f) : InstrClass s i
  | test {i : Instr} {f : DataForm} (h : testForm i s = some f) : InstrClass s i
  | mul {i : Instr} {f : MulForm} (h : mulForm i s = some f) : InstrClass s i
  | long {i : Instr} {f : LongForm} (h : longForm i = some f) : InstrClass s i
  | load {i : Instr} {f : TransferForm} (h : loadForm i s = some f) : InstrClass s i
  | store {i : Instr} {f : TransferForm} (h : storeForm i s = some f) : InstrClass s i
  | ldm {i : Instr} {f : BlockForm} (h : ldmForm i = some f) : InstrClass s i
  | stm {i : Instr} {f : BlockForm} (h : stmForm i = some f) : InstrClass s i
  | ldmRestore (c : Cond) (p u w : Bool) (rn : Reg) (list : BitVec 16) : InstrClass s (.ldmRestore c p u w rn list)
  | ldmUser (c : Cond) (p u w : Bool) (rn : Reg) (list : BitVec 16) : InstrClass s (.ldmUser c p u w rn list)
  | stmUser (c : Cond) (p u w : Bool) (rn : Reg) (list : BitVec 16) : InstrClass s (.stmUser c p u w rn list)
  | swp (c : Cond) (rn rd rm : Reg) : InstrClass s (.swp c rn rd rm)
  | swpb (c : Cond) (rn rd rm : Reg) : InstrClass s (.swpb c rn rd rm)
  | branchExchange (c : Cond) (rn : Reg) : InstrClass s (.bx c rn)
  | branch (c : Cond) (off : BitVec 24) : InstrClass s (.b c off)
  | branchLink (c : Cond) (off : BitVec 24) : InstrClass s (.bl c off)
  | mrs (c : Cond) (ps : Bool) (rd : Reg) : InstrClass s (.mrs c ps rd)
  | msrReg (c : Cond) (pd : Bool) (rm : Reg) : InstrClass s (.msrReg c pd rm)
  | msrFlagsReg (c : Cond) (pd : Bool) (rm : Reg) : InstrClass s (.msrFlagsReg c pd rm)
  | msrFlagsImm (c : Cond) (pd : Bool) (o : RotImm) : InstrClass s (.msrFlagsImm c pd o)
  | trap {i : Instr} {c : Cond} (h : trapForm i = some c) : InstrClass s i
  | swi (c : Cond) (comment : BitVec 24) : InstrClass s (.swi c comment)

theorem instrClass (s : State) (i : Instr) : InstrClass s i := by
  cases i with
  | andImm | andShift | andRegShift | eorImm | eorShift | eorRegShift | subImm | subShift | subRegShift
  | rsbImm | rsbShift | rsbRegShift | addImm | addShift | addRegShift | adcImm | adcShift | adcRegShift
  | sbcImm | sbcShift | sbcRegShift | rscImm | rscShift | rscRegShift | orrImm | orrShift | orrRegShift
  | movImm | movShift | movRegShift | bicImm | bicShift | bicRegShift | mvnImm | mvnShift | mvnRegShift =>
    exact .result rfl
  | tstImm | tstShift | tstRegShift | teqImm | teqShift | teqRegShift | cmpImm | cmpShift | cmpRegShift
  | cmnImm | cmnShift | cmnRegShift =>
    exact .test rfl
  | mul | mla => exact .mul rfl
  | umull | umlal | smull | smlal => exact .long rfl
  | ldrImmPre | ldrRegPre | ldrImmPost | ldrRegPost | ldrtImm | ldrtReg | ldrbImmPre | ldrbRegPre | ldrbImmPost
  | ldrbRegPost | ldrbtImm | ldrbtReg | ldrhReg | ldrhImm | ldrsbReg | ldrsbImm | ldrshReg | ldrshImm =>
    exact .load rfl
  | strImmPre | strRegPre | strImmPost | strRegPost | strtImm | strtReg | strbImmPre | strbRegPre | strbImmPost
  | strbRegPost | strbtImm | strbtReg | strhReg | strhImm =>
    exact .store rfl
  | ldmda | ldmia | ldmdb | ldmib => exact .ldm rfl
  | stmda | stmia | stmdb | stmib => exact .stm rfl
  | undefined | ldc | stc | cdp | mcr | mrc => exact .trap rfl
  | ldmRestore => exact .ldmRestore ..
  | ldmUser => exact .ldmUser ..
  | stmUser => exact .stmUser ..
  | swp => exact .swp ..
  | swpb => exact .swpb ..
  | bx => exact .branchExchange ..
  | b => exact .branch ..
  | bl => exact .branchLink ..
  | mrs => exact .mrs ..
  | msrReg => exact .msrReg ..
  | msrFlagsReg => exact .msrFlagsReg ..
  | msrFlagsImm => exact .msrFlagsImm ..
  | swi => exact .swi ..

/-- The instructions that may write memory. -/
inductive Stores (s : State) : Instr → Prop where
  | store {i : Instr} {f : TransferForm} (h : storeForm i s = some f) : Stores s i
  | stm {i : Instr} {f : BlockForm} (h : stmForm i = some f) : Stores s i
  | stmUser (c : Cond) (p u w : Bool) (rn : Reg) (list : BitVec 16) : Stores s (.stmUser c p u w rn list)
  | swp (c : Cond) (rn rd rm : Reg) : Stores s (.swp c rn rd rm)
  | swpb (c : Cond) (rn rd rm : Reg) : Stores s (.swpb c rn rd rm)

theorem exec_keeps_of_stores {i : Instr} {s : State} (h : Stores s i) : Keeps SurroundingsKept s (exec i s) := by
  have hadvance := (advance_keeps s).surroundings
  cases h with
  | store h =>
    rw [exec_storeForm_eq h]
    exact ((finishStore_keeps (fun _ => storeOf_kept) _ _).unlessBroken _).conditionally hadvance _
  | stm h =>
    rw [exec_stmForm_eq h]
    exact (storeMultiple_keeps ..).conditionally hadvance _
  | stmUser => exact execStmUser_keeps ..
  | swp c rn rd rm =>
    exact (((swap_keeps .word .word ..).refuseIf _ _).refuseIf _ _).conditionally hadvance c
  | swpb c rn rd rm => exact ((swap_keeps .byte .byte ..).refuseIf _ _).conditionally hadvance c

/-- Every instruction either may write memory or keeps it along with the surroundings. -/
theorem stores_or_quiet (i : Instr) (s : State) : Stores s i ∨ Keeps Quiet s (exec i s) := by
  have hadvance := advance_keeps s
  cases instrClass s i with
  | store h => exact .inl (.store h)
  | stm h => exact .inl (.stm h)
  | stmUser => exact .inl (.stmUser ..)
  | swp => exact .inl (.swp ..)
  | swpb => exact .inl (.swpb ..)
  | result h =>
    rw [exec_resultForm_eq h]
    exact .inr (((writeResult_keeps ..).unlessBroken _).conditionally hadvance _)
  | test h =>
    rw [exec_testForm_eq h]
    exact .inr ((((s.quiet_setAluFlags _).keeps (advance_keeps _)).unlessBroken _).conditionally hadvance _)
  | mul h =>
    rw [exec_mulForm_eq h]
    exact .inr (((writeProduct_keeps ..).unlessBroken _).conditionally hadvance _)
  | long h =>
    rw [exec_longForm_eq h]
    exact .inr (((writeLongProduct_keeps ..).unlessBroken _).conditionally hadvance _)
  | load h =>
    rw [exec_loadForm_eq h]
    exact .inr (((finishLoad_keeps (fun _ _ => LoadKind.load_quiet) ..).unlessBroken _).conditionally hadvance _)
  | ldm h =>
    rw [exec_ldmForm_eq h]
    exact .inr ((loadMultiple_keeps ..).conditionally hadvance _)
  | ldmRestore c p u w rn list => exact .inr (execLdmRestore_keeps ⟨c, p, u, w, rn, list⟩ s)
  | ldmUser c p u w rn list => exact .inr (execLdmUser_keeps ⟨c, p, u, w, rn, list⟩ s)
  | branchExchange c rn =>
    exact .inr ((((s.quiet_setCpsr _).keeps (writePc_keeps ..)).refuseIf _ _).conditionally hadvance c)
  | branch c off => exact .inr ((keeps_next (s.quiet_setPc _)).conditionally hadvance c)
  | branchLink c off =>
    exact .inr ((keeps_next ((s.quiet_setReg 14#4 _).trans (State.quiet_setPc ..))).conditionally hadvance c)
  | mrs c ps rd =>
    refine .inr (Keeps.conditionally (Keeps.refuseIf ?_ _ _) hadvance c)
    split
    · exact keeps_refused ..
    · exact (s.quiet_drawn.trans (State.quiet_setReg ..)).keeps (advance_keeps _)
  | msrReg c pd rm =>
    refine .inr (Keeps.conditionally (Keeps.refuseIf ?_ _ _) hadvance c)
    split
    · exact changeSpsr_keeps ..
    · exact writeWholeCpsr_keeps ..
  | msrFlagsReg c pd rm => exact .inr (((writePsrFlags_keeps ..).refuseIf _ _).conditionally hadvance c)
  | msrFlagsImm c pd o => exact .inr ((writePsrFlags_keeps ..).conditionally hadvance c)
  | trap h =>
    rw [exec_trapForm_eq h]
    exact .inr ((keeps_next (quiet_enterException ..)).conditionally hadvance _)
  | swi c comment => exact .inr ((keeps_next (quiet_enterException ..)).conditionally hadvance c)

/-! ### The obligation -/

/-- Settles O60, by the class of the instruction. -/
theorem noInstructionChangesTheSurroundings : Obligations.NoInstructionChangesTheSurroundings := by
  intro i s t ht
  have hkept : SurroundingsKept s t :=
    (stores_or_quiet i s).elim (fun h => (exec_keeps_of_stores h).next t ht) (fun h => (h.next t ht).toSurroundingsKept)
  refine ⟨⟨hkept.bigend, hkept.om, hkept.map, hkept.misaligned, hkept.aborts, hkept.inputs, ?_⟩,
    fun hstore hstm huser hswp hswpb => ?_⟩
  · obtain ⟨events, hlog⟩ := hkept.log
    exact ⟨events, hlog.symm⟩
  · rcases stores_or_quiet i s with hstores | hquiet
    · cases hstores with
      | store h => simp [hstore] at h
      | stm h => simp [hstm] at h
      | stmUser => exact (huser _ _ _ _ _ _ rfl).elim
      | swp => exact (hswp _ _ _ _ rfl).elim
      | swpb => exact (hswpb _ _ _ _ rfl).elim
    · exact (hquiet.next t ht).mem

end Sys2Proof.Machine

/-! SUPPORT. The instruction words of 30_encoding.md: when a word is of a format, field by field, what the decoder makes of the
word of each format, and that what it answers is encoded by the word: what O1, O2 and O3 rest on. -/

namespace Sys2Proof

/-! ### Cutting a bit vector into fields -/

theorem extractLsb'_eq_append_iff {k s m n : Nat} {w : BitVec k} {x : BitVec m} {y : BitVec n} :
    w.extractLsb' s (m + n) = x ++ y ↔ w.extractLsb' (s + n) m = x ∧ w.extractLsb' s n = y := by
  rw [← BitVec.extractLsb'_append_extractLsb'_eq_extractLsb' (x := w) (rfl : s + n = s + n)]
  constructor
  · intro h
    have hx := congrArg (BitVec.extractLsb' n m) h
    have hy := congrArg (BitVec.extractLsb' 0 n) h
    rw [BitVec.extractLsb'_append_eq_left, BitVec.extractLsb'_append_eq_left] at hx
    rw [BitVec.extractLsb'_append_eq_right, BitVec.extractLsb'_append_eq_right] at hy
    exact ⟨hx, hy⟩
  · rintro ⟨rfl, rfl⟩
    rfl

theorem append_eq_iff {m n : Nat} {w : BitVec (m + n)} {x : BitVec m} {y : BitVec n} :
    x ++ y = w ↔ w.extractLsb' n m = x ∧ w.extractLsb' 0 n = y := by
  have h := extractLsb'_eq_append_iff (w := w) (s := 0) (x := x) (y := y)
  rw [BitVec.extractLsb'_eq_self, Nat.zero_add] at h
  exact eq_comm.trans h

theorem extractLsb'_eq_ofBool_iff {k s : Nat} {w : BitVec k} {b : Bool} :
    w.extractLsb' s 1 = BitVec.ofBool b ↔ w.getLsbD s = b := by
  rw [BitVec.getLsbD_eq_extractLsb']
  generalize w.extractLsb' s 1 = x
  revert x b
  decide

theorem extractLsb'_eq_one_iff {k s : Nat} {w : BitVec k} : w.extractLsb' s 1 = 1#1 ↔ w.getLsbD s = true :=
  extractLsb'_eq_ofBool_iff (b := true)

theorem extractLsb'_eq_zero_iff {k s : Nat} {w : BitVec k} : w.extractLsb' s 1 = 0#1 ↔ w.getLsbD s = false :=
  extractLsb'_eq_ofBool_iff (b := false)

/-- A field inside a field. -/
theorem extractLsb'_of_eq {k s n : Nat} {w : BitVec k} {v : BitVec n} (h : w.extractLsb' s n = v) (t m : Nat)
    (ht : t + m ≤ n := by omega) : w.extractLsb' (s + t) m = v.extractLsb' t m := by
  subst h
  ext i hi
  have : t + i < n := by omega
  simp [BitVec.getElem_extractLsb', Nat.add_assoc, this]

/-- A bit inside a field. -/
theorem getLsbD_of_eq {k s n : Nat} {w : BitVec k} {v : BitVec n} (h : w.extractLsb' s n = v) (t : Nat)
    (ht : t < n := by omega) : w.getLsbD (s + t) = v.getLsbD t := by
  subst h
  simp [ht]

/-! ### The small fields and the decoder's patterns -/

theorem ShiftKind.ofBits_eq_iff {b : BitVec 2} {k : ShiftKind} : ShiftKind.ofBits b = k ↔ b = k.bits := by
  constructor
  · rintro rfl; exact (ShiftKind.bits_ofBits b).symm
  · rintro rfl; exact ShiftKind.ofBits_bits k

theorem rotImmField_eq_iff {w : Word} {o : RotImm} :
    rotImmField w = o ↔ w.extractLsb' 8 4 = o.rot ∧ w.extractLsb' 0 8 = o.imm := by
  cases o
  simp [rotImmField]

theorem shiftImmField_eq_iff {w : Word} {o : ShiftImm} :
    shiftImmField w = o ↔
      w.extractLsb' 7 5 = o.amount ∧ w.extractLsb' 5 2 = o.kind.bits ∧ w.extractLsb' 0 4 = o.rm := by
  cases o
  simp [shiftImmField, ShiftKind.ofBits_eq_iff]

theorem shiftRegField_eq_iff {w : Word} {o : ShiftReg} :
    shiftRegField w = o ↔
      w.extractLsb' 8 4 = o.rs ∧ w.extractLsb' 5 2 = o.kind.bits ∧ w.extractLsb' 0 4 = o.rm := by
  cases o
  simp [shiftRegField, ShiftKind.ofBits_eq_iff]

/-- The opcodes whose codes without S are those of BX and the PSR transfers (30_encoding.md R176 to R178). -/
def Opcode.isTest : Opcode → Bool
  | .tst | .teq | .cmp | .cmn => true
  | _ => false

/-- Bits 24:23 are 10 and S is 0 exactly for a test without S. -/
theorem testPattern_iff {w : Word} {op : Opcode} (h : w.extractLsb' 21 4 = op.bits) :
    (w.extractLsb' 23 2 = 0b10#2 ∧ w.getLsbD 20 = false) ↔ ¬ (op.isTest = true → w.getLsbD 20 = true) := by
  have hcode : op.bits.extractLsb' 2 2 = 0b10#2 ↔ op.isTest = true := by cases op <;> decide
  rw [show w.extractLsb' 23 2 = op.bits.extractLsb' 2 2 from extractLsb'_of_eq h 2 2, hcode]
  simp

/-- Bits 7:4 of the multiplies and swaps (30_encoding.md R179 to R181). -/
theorem multiplyPattern_iff {w : Word} :
    w.extractLsb' 4 4 = 0b1001#4 ↔ w.getLsbD 7 = true ∧ w.extractLsb' 5 2 = 0b00#2 ∧ w.getLsbD 4 = true := by
  show w.extractLsb' 4 (1 + 2 + 1) = 0b1#1 ++ 0b00#2 ++ 0b1#1 ↔ _
  simp only [extractLsb'_eq_append_iff, extractLsb'_eq_one_iff, and_assoc]

/-! ### When a word is that of a format, field by field (30_encoding.md R175 to R192) -/

section

variable {w : Word} {c : Cond} {op : Opcode} {sf p u b wb l s h : Bool} {rn rd rm : Reg}

theorem dataImmWord_eq_iff {o : RotImm} :
    dataImmWord c op sf rn rd o = w ↔
      w.extractLsb' 28 4 = c.bits ∧ w.extractLsb' 25 3 = 0b001#3 ∧ w.extractLsb' 21 4 = op.bits ∧
      w.getLsbD 20 = sf ∧ w.extractLsb' 16 4 = rn ∧ w.extractLsb' 12 4 = rd ∧ rotImmField w = o := by
  rw [dataImmWord, append_eq_iff]
  simp only [extractLsb'_eq_append_iff, extractLsb'_eq_ofBool_iff, rotImmField_eq_iff, and_assoc]

theorem dataShiftWord_eq_iff {o : ShiftImm} :
    dataShiftWord c op sf rn rd o = w ↔
      w.extractLsb' 28 4 = c.bits ∧ w.extractLsb' 25 3 = 0b000#3 ∧ w.extractLsb' 21 4 = op.bits ∧
      w.getLsbD 20 = sf ∧ w.extractLsb' 16 4 = rn ∧ w.extractLsb' 12 4 = rd ∧ w.extractLsb' 7 5 = o.amount ∧
      w.extractLsb' 5 2 = o.kind.bits ∧ w.getLsbD 4 = false ∧ w.extractLsb' 0 4 = o.rm := by
  rw [dataShiftWord, append_eq_iff]
  simp only [extractLsb'_eq_append_iff, extractLsb'_eq_ofBool_iff, extractLsb'_eq_zero_iff, and_assoc]

theorem dataRegShiftWord_eq_iff {o : ShiftReg} :
    dataRegShiftWord c op sf rn rd o = w ↔
      w.extractLsb' 28 4 = c.bits ∧ w.extractLsb' 25 3 = 0b000#3 ∧ w.extractLsb' 21 4 = op.bits ∧
      w.getLsbD 20 = sf ∧ w.extractLsb' 16 4 = rn ∧ w.extractLsb' 12 4 = rd ∧ w.extractLsb' 8 4 = o.rs ∧
      w.getLsbD 7 = false ∧ w.extractLsb' 5 2 = o.kind.bits ∧ w.getLsbD 4 = true ∧ w.extractLsb' 0 4 = o.rm := by
  rw [dataRegShiftWord, append_eq_iff]
  simp only [extractLsb'_eq_append_iff, extractLsb'_eq_ofBool_iff, extractLsb'_eq_zero_iff, extractLsb'_eq_one_iff,
    and_assoc]

theorem mulWord_eq_iff {a : Bool} {rs : Reg} :
    mulWord c a sf rd rn rs rm = w ↔
      w.extractLsb' 28 4 = c.bits ∧ w.extractLsb' 22 6 = 0b000000#6 ∧ w.getLsbD 21 = a ∧ w.getLsbD 20 = sf ∧
      w.extractLsb' 16 4 = rd ∧ w.extractLsb' 12 4 = rn ∧ w.extractLsb' 8 4 = rs ∧
      w.extractLsb' 4 4 = 0b1001#4 ∧ w.extractLsb' 0 4 = rm := by
  rw [mulWord, append_eq_iff]
  simp only [extractLsb'_eq_append_iff, extractLsb'_eq_ofBool_iff, and_assoc]

theorem mulLongWord_eq_iff {a : Bool} {rdHi rdLo rs : Reg} :
    mulLongWord c u a sf rdHi rdLo rs rm = w ↔
      w.extractLsb' 28 4 = c.bits ∧ w.extractLsb' 23 5 = 0b00001#5 ∧ w.getLsbD 22 = u ∧ w.getLsbD 21 = a ∧
      w.getLsbD 20 = sf ∧ w.extractLsb' 16 4 = rdHi ∧ w.extractLsb' 12 4 = rdLo ∧ w.extractLsb' 8 4 = rs ∧
      w.extractLsb' 4 4 = 0b1001#4 ∧ w.extractLsb' 0 4 = rm := by
  rw [mulLongWord, append_eq_iff]
  simp only [extractLsb'_eq_append_iff, extractLsb'_eq_ofBool_iff, and_assoc]

theorem swapWord_eq_iff :
    swapWord c b rn rd rm = w ↔
      w.extractLsb' 28 4 = c.bits ∧ w.extractLsb' 23 5 = 0b00010#5 ∧ w.getLsbD 22 = b ∧
      w.extractLsb' 20 2 = 0b00#2 ∧ w.extractLsb' 16 4 = rn ∧ w.extractLsb' 12 4 = rd ∧
      w.extractLsb' 8 4 = 0b0000#4 ∧ w.extractLsb' 4 4 = 0b1001#4 ∧ w.extractLsb' 0 4 = rm := by
  rw [swapWord, append_eq_iff]
  simp only [extractLsb'_eq_append_iff, extractLsb'_eq_ofBool_iff, and_assoc]

theorem bxWord_eq_iff :
    bxWord c rn = w ↔
      w.extractLsb' 28 4 = c.bits ∧ w.extractLsb' 4 24 = 0x12FFF1#24 ∧ w.extractLsb' 0 4 = rn := by
  rw [bxWord, append_eq_iff]
  simp only [extractLsb'_eq_append_iff, and_assoc]

theorem mrsWord_eq_iff {ps : Bool} :
    mrsWord c ps rd = w ↔
      w.extractLsb' 28 4 = c.bits ∧ w.extractLsb' 23 5 = 0b00010#5 ∧ w.getLsbD 22 = ps ∧
      w.extractLsb' 16 6 = 0b001111#6 ∧ w.extractLsb' 12 4 = rd ∧ w.extractLsb' 0 12 = 0#12 := by
  rw [mrsWord, append_eq_iff]
  simp only [extractLsb'_eq_append_iff, extractLsb'_eq_ofBool_iff, and_assoc]

theorem msrRegWord_eq_iff {pd whole : Bool} :
    msrRegWord c pd whole rm = w ↔
      w.extractLsb' 28 4 = c.bits ∧ w.extractLsb' 23 5 = 0b00010#5 ∧ w.getLsbD 22 = pd ∧
      w.extractLsb' 12 10 = 0b10100#5 ++ BitVec.ofBool whole ++ 0b1111#4 ∧ w.extractLsb' 4 8 = 0#8 ∧
      w.extractLsb' 0 4 = rm := by
  show _ ↔ _ ∧ _ ∧ _ ∧ w.extractLsb' 12 (5 + 1 + 4) = _ ∧ _
  rw [msrRegWord, append_eq_iff]
  simp only [extractLsb'_eq_append_iff, extractLsb'_eq_ofBool_iff, and_assoc]

theorem msrImmWord_eq_iff {pd : Bool} {o : RotImm} :
    msrImmWord c pd o = w ↔
      w.extractLsb' 28 4 = c.bits ∧ w.extractLsb' 23 5 = 0b00110#5 ∧ w.getLsbD 22 = pd ∧
      w.extractLsb' 12 10 = 0b1010001111#10 ∧ rotImmField w = o := by
  rw [msrImmWord, append_eq_iff]
  simp only [extractLsb'_eq_append_iff, extractLsb'_eq_ofBool_iff, rotImmField_eq_iff, and_assoc]

theorem halfRegWord_eq_iff :
    halfRegWord c p u wb l s h rn rd rm = w ↔
      w.extractLsb' 28 4 = c.bits ∧ w.extractLsb' 25 3 = 0b000#3 ∧ w.getLsbD 24 = p ∧ w.getLsbD 23 = u ∧
      w.getLsbD 22 = false ∧ w.getLsbD 21 = wb ∧ w.getLsbD 20 = l ∧ w.extractLsb' 16 4 = rn ∧
      w.extractLsb' 12 4 = rd ∧ w.extractLsb' 8 4 = 0b0000#4 ∧ w.getLsbD 7 = true ∧ w.getLsbD 6 = s ∧
      w.getLsbD 5 = h ∧ w.getLsbD 4 = true ∧ w.extractLsb' 0 4 = rm := by
  rw [halfRegWord, append_eq_iff]
  simp only [extractLsb'_eq_append_iff, extractLsb'_eq_ofBool_iff, extractLsb'_eq_zero_iff, extractLsb'_eq_one_iff,
    and_assoc]

theorem halfImmWord_eq_iff {off : BitVec 8} :
    halfImmWord c p u wb l s h rn rd off = w ↔
      w.extractLsb' 28 4 = c.bits ∧ w.extractLsb' 25 3 = 0b000#3 ∧ w.getLsbD 24 = p ∧ w.getLsbD 23 = u ∧
      w.getLsbD 22 = true ∧ w.getLsbD 21 = wb ∧ w.getLsbD 20 = l ∧ w.extractLsb' 16 4 = rn ∧
      w.extractLsb' 12 4 = rd ∧ w.extractLsb' 8 4 = off.extractLsb' 4 4 ∧ w.getLsbD 7 = true ∧ w.getLsbD 6 = s ∧
      w.getLsbD 5 = h ∧ w.getLsbD 4 = true ∧ w.extractLsb' 0 4 = off.extractLsb' 0 4 := by
  rw [halfImmWord, append_eq_iff]
  simp only [extractLsb'_eq_append_iff, extractLsb'_eq_ofBool_iff, extractLsb'_eq_one_iff, and_assoc]

theorem sdtImmWord_eq_iff {off : BitVec 12} :
    sdtImmWord c p u b wb l rn rd off = w ↔
      w.extractLsb' 28 4 = c.bits ∧ w.extractLsb' 25 3 = 0b010#3 ∧ w.getLsbD 24 = p ∧ w.getLsbD 23 = u ∧
      w.getLsbD 22 = b ∧ w.getLsbD 21 = wb ∧ w.getLsbD 20 = l ∧ w.extractLsb' 16 4 = rn ∧
      w.extractLsb' 12 4 = rd ∧ w.extractLsb' 0 12 = off := by
  rw [sdtImmWord, append_eq_iff]
  simp only [extractLsb'_eq_append_iff, extractLsb'_eq_ofBool_iff, and_assoc]

theorem sdtRegWord_eq_iff {o : ShiftImm} :
    sdtRegWord c p u b wb l rn rd o = w ↔
      w.extractLsb' 28 4 = c.bits ∧ w.extractLsb' 25 3 = 0b011#3 ∧ w.getLsbD 24 = p ∧ w.getLsbD 23 = u ∧
      w.getLsbD 22 = b ∧ w.getLsbD 21 = wb ∧ w.getLsbD 20 = l ∧ w.extractLsb' 16 4 = rn ∧
      w.extractLsb' 12 4 = rd ∧ w.extractLsb' 7 5 = o.amount ∧ w.extractLsb' 5 2 = o.kind.bits ∧
      w.getLsbD 4 = false ∧ w.extractLsb' 0 4 = o.rm := by
  rw [sdtRegWord, append_eq_iff]
  simp only [extractLsb'_eq_append_iff, extractLsb'_eq_ofBool_iff, extractLsb'_eq_zero_iff, and_assoc]

theorem undefinedWord_eq_iff {hi : BitVec 20} {lo : BitVec 4} :
    undefinedWord c hi lo = w ↔
      w.extractLsb' 28 4 = c.bits ∧ w.extractLsb' 25 3 = 0b011#3 ∧ w.extractLsb' 5 20 = hi ∧
      w.getLsbD 4 = true ∧ w.extractLsb' 0 4 = lo := by
  rw [undefinedWord, append_eq_iff]
  simp only [extractLsb'_eq_append_iff, extractLsb'_eq_one_iff, and_assoc]

theorem blockWord_eq_iff {list : BitVec 16} :
    blockWord c p u s wb l rn list = w ↔
      w.extractLsb' 28 4 = c.bits ∧ w.extractLsb' 25 3 = 0b100#3 ∧ w.getLsbD 24 = p ∧ w.getLsbD 23 = u ∧
      w.getLsbD 22 = s ∧ w.getLsbD 21 = wb ∧ w.getLsbD 20 = l ∧ w.extractLsb' 16 4 = rn ∧
      w.extractLsb' 0 16 = list := by
  rw [blockWord, append_eq_iff]
  simp only [extractLsb'_eq_append_iff, extractLsb'_eq_ofBool_iff, and_assoc]

theorem branchWord_eq_iff {off : BitVec 24} :
    branchWord c l off = w ↔
      w.extractLsb' 28 4 = c.bits ∧ w.extractLsb' 25 3 = 0b101#3 ∧ w.getLsbD 24 = l ∧ w.extractLsb' 0 24 = off := by
  rw [branchWord, append_eq_iff]
  simp only [extractLsb'_eq_append_iff, extractLsb'_eq_ofBool_iff, and_assoc]

theorem copTransferWord_eq_iff {n : Bool} {crd cp : Reg} {off : BitVec 8} :
    copTransferWord c p u n wb l rn crd cp off = w ↔
      w.extractLsb' 28 4 = c.bits ∧ w.extractLsb' 25 3 = 0b110#3 ∧ w.getLsbD 24 = p ∧ w.getLsbD 23 = u ∧
      w.getLsbD 22 = n ∧ w.getLsbD 21 = wb ∧ w.getLsbD 20 = l ∧ w.extractLsb' 16 4 = rn ∧
      w.extractLsb' 12 4 = crd ∧ w.extractLsb' 8 4 = cp ∧ w.extractLsb' 0 8 = off := by
  rw [copTransferWord, append_eq_iff]
  simp only [extractLsb'_eq_append_iff, extractLsb'_eq_ofBool_iff, and_assoc]

theorem copDataWord_eq_iff {opc : BitVec 4} {crn crd cp crm : Reg} {info : BitVec 3} :
    copDataWord c opc crn crd cp info crm = w ↔
      w.extractLsb' 28 4 = c.bits ∧ w.extractLsb' 24 4 = 0b1110#4 ∧ w.extractLsb' 20 4 = opc ∧
      w.extractLsb' 16 4 = crn ∧ w.extractLsb' 12 4 = crd ∧ w.extractLsb' 8 4 = cp ∧ w.extractLsb' 5 3 = info ∧
      w.getLsbD 4 = false ∧ w.extractLsb' 0 4 = crm := by
  rw [copDataWord, append_eq_iff]
  simp only [extractLsb'_eq_append_iff, extractLsb'_eq_zero_iff, and_assoc]

theorem copRegisterWord_eq_iff {opc : BitVec 3} {crn cp crm : Reg} {info : BitVec 3} :
    copRegisterWord c opc l crn rd cp info crm = w ↔
      w.extractLsb' 28 4 = c.bits ∧ w.extractLsb' 24 4 = 0b1110#4 ∧ w.extractLsb' 21 3 = opc ∧ w.getLsbD 20 = l ∧
      w.extractLsb' 16 4 = crn ∧ w.extractLsb' 12 4 = rd ∧ w.extractLsb' 8 4 = cp ∧ w.extractLsb' 5 3 = info ∧
      w.getLsbD 4 = true ∧ w.extractLsb' 0 4 = crm := by
  rw [copRegisterWord, append_eq_iff]
  simp only [extractLsb'_eq_append_iff, extractLsb'_eq_ofBool_iff, extractLsb'_eq_one_iff, and_assoc]

theorem swiWord_eq_iff {comment : BitVec 24} :
    swiWord c comment = w ↔
      w.extractLsb' 28 4 = c.bits ∧ w.extractLsb' 24 4 = 0b1111#4 ∧ w.extractLsb' 0 24 = comment := by
  rw [swiWord, append_eq_iff]
  simp only [extractLsb'_eq_append_iff, and_assoc]

end

/-! ### The class of a word (30_encoding.md R162) -/

section

variable {w : Word} {c : Cond}

theorem decode_of_cond (hc : w.extractLsb' 28 4 = c.bits) : decode w = decodeClass c w := by
  simp [decode, hc]

theorem decodeClass_register (h : w.extractLsb' 25 3 = 0b000#3) : decodeClass c w = decodeRegisterClass c w := by
  simp [decodeClass, h]

theorem decodeClass_immediate (h : w.extractLsb' 25 3 = 0b001#3) : decodeClass c w = decodeImmediateClass c w := by
  simp [decodeClass, h]

theorem decodeClass_offsetImmediate (h : w.extractLsb' 25 3 = 0b010#3) :
    decodeClass c w = .ok (sdtImmInstr (w.getLsbD 20) (w.getLsbD 22) (w.getLsbD 24) (w.getLsbD 21) c (w.getLsbD 23)
      (w.extractLsb' 16 4) (w.extractLsb' 12 4) (w.extractLsb' 0 12)) := by
  simp [decodeClass, h]

theorem decodeClass_offsetRegister (h : w.extractLsb' 25 3 = 0b011#3) :
    decodeClass c w = .ok (decodeOffsetRegisterClass c w) := by
  simp [decodeClass, h]

theorem decodeClass_block (h : w.extractLsb' 25 3 = 0b100#3) :
    decodeClass c w = .ok (blockInstr (w.getLsbD 22) (w.getLsbD 20) (w.getLsbD 24) (w.getLsbD 23) c (w.getLsbD 21)
      (w.extractLsb' 16 4) (w.extractLsb' 0 16)) := by
  simp [decodeClass, h]

theorem decodeClass_branch (h : w.extractLsb' 25 3 = 0b101#3) :
    decodeClass c w = .ok (if w.getLsbD 24 then .bl c (w.extractLsb' 0 24) else .b c (w.extractLsb' 0 24)) := by
  simp [decodeClass, h]

theorem decodeClass_coprocessorTransfer (h : w.extractLsb' 25 3 = 0b110#3) :
    decodeClass c w = .ok (decodeCoprocessorTransfer c w) := by
  simp [decodeClass, h]

theorem decodeClass_trap (h : w.extractLsb' 25 3 = 0b111#3) : decodeClass c w = .ok (decodeTrapClass c w) := by
  simp [decodeClass, h]

theorem decodeRegisterClass_multiply (h : w.extractLsb' 4 4 = 0b1001#4) :
    decodeRegisterClass c w = decodeMultiplySwap c w := by
  obtain ⟨h7, h5, h4⟩ := multiplyPattern_iff.mp h
  simp [decodeRegisterClass, h7, h5, h4]

theorem decodeRegisterClass_halfword (h7 : w.getLsbD 7 = true) (h4 : w.getLsbD 4 = true)
    (hsh : (w.getLsbD 6 || w.getLsbD 5) = true) : decodeRegisterClass c w = decodeHalfword c w := by
  have h5 : w.extractLsb' 5 2 ≠ 0b00#2 := fun h => by
    rw [show w.getLsbD 6 = false from getLsbD_of_eq h 1, show w.getLsbD 5 = false from getLsbD_of_eq h 0] at hsh
    cases hsh
  simp [decodeRegisterClass, h7, h4, h5]

theorem decodeRegisterClass_miscellaneous (h23 : w.extractLsb' 23 2 = 0b10#2) (h20 : w.getLsbD 20 = false)
    (h7 : w.getLsbD 7 = false) : decodeRegisterClass c w = decodeMiscellaneous c w := by
  simp only [decodeRegisterClass, h23, h20, h7, Bool.false_eq_true, and_false, if_false, and_self, if_true]

end

/-! ### Decoding the word of each format -/

section

variable {c : Cond} {op : Opcode} {sf p u b wb l s h : Bool} {rn rd rm : Reg}

theorem decode_dataImmWord {o : RotImm} (htest : op.isTest = true → sf = true) :
    decode (dataImmWord c op sf rn rd o) = .ok (dataImmInstr op c sf rn rd o) := by
  generalize hw : dataImmWord c op sf rn rd o = w
  obtain ⟨hc, hclass, hop, rfl, rfl, rfl, rfl⟩ := dataImmWord_eq_iff.mp hw
  have hpattern := (testPattern_iff hop).not_left.mpr htest
  simp only [decode_of_cond hc, decodeClass_immediate hclass, decodeImmediateClass, hpattern, if_false, hop,
    Opcode.ofBits_bits]

theorem decode_dataShiftWord {o : ShiftImm} (htest : op.isTest = true → sf = true) :
    decode (dataShiftWord c op sf rn rd o) = .ok (dataShiftInstr op c sf rn rd o) := by
  generalize hw : dataShiftWord c op sf rn rd o = w
  obtain ⟨hc, hclass, hop, rfl, rfl, rfl, hamount, hkind, h4, hrm⟩ := dataShiftWord_eq_iff.mp hw
  have hpattern := (testPattern_iff hop).not_left.mpr htest
  simp only [decode_of_cond hc, decodeClass_register hclass, decodeRegisterClass, hpattern, h4, Bool.false_eq_true,
    false_and, if_false, hop, Opcode.ofBits_bits, shiftImmField_eq_iff.mpr ⟨hamount, hkind, hrm⟩]

theorem decode_dataRegShiftWord {o : ShiftReg} (htest : op.isTest = true → sf = true) :
    decode (dataRegShiftWord c op sf rn rd o) = .ok (dataRegShiftInstr op c sf rn rd o) := by
  generalize hw : dataRegShiftWord c op sf rn rd o = w
  obtain ⟨hc, hclass, hop, rfl, rfl, rfl, hrs, h7, hkind, h4, hrm⟩ := dataRegShiftWord_eq_iff.mp hw
  have hpattern := (testPattern_iff hop).not_left.mpr htest
  simp only [decode_of_cond hc, decodeClass_register hclass, decodeRegisterClass, hpattern, h4, h7, Bool.false_eq_true,
    and_false, if_false, if_true, hop, Opcode.ofBits_bits, shiftRegField_eq_iff.mpr ⟨hrs, hkind, hrm⟩]

theorem decode_mulWord {a : Bool} {rs : Reg} :
    decode (mulWord c a sf rd rn rs rm) = .ok (if a then .mla c sf rd rn rs rm else .mul c sf rd rn rs rm) := by
  generalize hw : mulWord c a sf rd rn rs rm = w
  obtain ⟨hc, h22, rfl, rfl, rfl, rfl, rfl, h4, rfl⟩ := mulWord_eq_iff.mp hw
  have hclass : w.extractLsb' 25 3 = 0b000#3 := extractLsb'_of_eq h22 3 3
  rw [decode_of_cond hc, decodeClass_register hclass, decodeRegisterClass_multiply h4, decodeMultiplySwap, if_pos h22]
  split <;> rfl

theorem decode_mulLongWord {a : Bool} {rdHi rdLo rs : Reg} :
    decode (mulLongWord c u a sf rdHi rdLo rs rm) =
      .ok (if u then (if a then .smlal c sf rdHi rdLo rs rm else .smull c sf rdHi rdLo rs rm)
        else if a then .umlal c sf rdHi rdLo rs rm else .umull c sf rdHi rdLo rs rm) := by
  generalize hw : mulLongWord c u a sf rdHi rdLo rs rm = w
  obtain ⟨hc, h23, hu, ha, rfl, rfl, rfl, rfl, h4, rfl⟩ := mulLongWord_eq_iff.mp hw
  have hclass : w.extractLsb' 25 3 = 0b000#3 := extractLsb'_of_eq h23 2 3
  have h22 : w.extractLsb' 22 6 ≠ 0b000000#6 := fun h =>
    absurd (h23.symm.trans (extractLsb'_of_eq h 1 5)) (by decide)
  rw [decode_of_cond hc, decodeClass_register hclass, decodeRegisterClass_multiply h4, decodeMultiplySwap, if_neg h22,
    if_pos h23, hu, ha]
  cases u <;> cases a <;> rfl

theorem decode_swapWord : decode (swapWord c b rn rd rm) = .ok (if b then .swpb c rn rd rm else .swp c rn rd rm) := by
  generalize hw : swapWord c b rn rd rm = w
  obtain ⟨hc, h23, rfl, h20, rfl, rfl, h8, h4, rfl⟩ := swapWord_eq_iff.mp hw
  have hclass : w.extractLsb' 25 3 = 0b000#3 := extractLsb'_of_eq h23 2 3
  have h22 : w.extractLsb' 22 6 ≠ 0b000000#6 := fun h =>
    absurd (h23.symm.trans (extractLsb'_of_eq h 1 5)) (by decide)
  have hlong : w.extractLsb' 23 5 ≠ 0b00001#5 := by rw [h23]; decide
  rw [decode_of_cond hc, decodeClass_register hclass, decodeRegisterClass_multiply h4, decodeMultiplySwap, if_neg h22,
    if_neg hlong, if_pos ⟨h23, h20, h8⟩]
  split <;> rfl

theorem decode_halfRegWord (hsh : (s || h) = true) :
    decode (halfRegWord c p u wb l s h rn rd rm) = halfRegInstr l s h c p u wb rn rd rm := by
  generalize hw : halfRegWord c p u wb l s h rn rd rm = w
  obtain ⟨hc, hclass, rfl, rfl, h22, rfl, rfl, rfl, rfl, h8, h7, rfl, rfl, h4, rfl⟩ := halfRegWord_eq_iff.mp hw
  simp only [decode_of_cond hc, decodeClass_register hclass, decodeRegisterClass_halfword h7 h4 hsh, decodeHalfword,
    h22, h8, Bool.false_eq_true, if_false, if_true]

theorem decode_halfImmWord {off : BitVec 8} (hsh : (s || h) = true) :
    decode (halfImmWord c p u wb l s h rn rd off) = halfImmInstr l s h c p u wb rn rd off := by
  generalize hw : halfImmWord c p u wb l s h rn rd off = w
  obtain ⟨hc, hclass, rfl, rfl, h22, rfl, rfl, rfl, rfl, h8, h7, rfl, rfl, h4, h0⟩ := halfImmWord_eq_iff.mp hw
  have hoff : w.extractLsb' 8 4 ++ w.extractLsb' 0 4 = off := append_eq_iff.mpr ⟨h8.symm, h0.symm⟩
  simp only [decode_of_cond hc, decodeClass_register hclass, decodeRegisterClass_halfword h7 h4 hsh, decodeHalfword,
    h22, hoff, if_true]

theorem decode_bxWord : decode (bxWord c rn) = .ok (.bx c rn) := by
  generalize hw : bxWord c rn = w
  obtain ⟨hc, h4, rfl⟩ := bxWord_eq_iff.mp hw
  have hclass : w.extractLsb' 25 3 = 0b000#3 := extractLsb'_of_eq h4 21 3
  have h23 : w.extractLsb' 23 2 = 0b10#2 := extractLsb'_of_eq h4 19 2
  have h20 : w.getLsbD 20 = false := getLsbD_of_eq h4 16
  have h7 : w.getLsbD 7 = false := getLsbD_of_eq h4 3
  rw [decode_of_cond hc, decodeClass_register hclass, decodeRegisterClass_miscellaneous h23 h20 h7,
    decodeMiscellaneous, if_pos h4]

theorem decode_mrsWord {ps : Bool} : decode (mrsWord c ps rd) = .ok (.mrs c ps rd) := by
  generalize hw : mrsWord c ps rd = w
  obtain ⟨hc, hcode, rfl, h16, rfl, h0⟩ := mrsWord_eq_iff.mp hw
  have hclass : w.extractLsb' 25 3 = 0b000#3 := extractLsb'_of_eq hcode 2 3
  have h23 : w.extractLsb' 23 2 = 0b10#2 := extractLsb'_of_eq hcode 0 2
  have h20 : w.getLsbD 20 = false := getLsbD_of_eq h16 4
  have h7 : w.getLsbD 7 = false := getLsbD_of_eq h0 7
  have hbx : w.extractLsb' 4 24 ≠ 0x12FFF1#24 := fun h =>
    absurd (h16.symm.trans (extractLsb'_of_eq h 12 6)) (by decide)
  rw [decode_of_cond hc, decodeClass_register hclass, decodeRegisterClass_miscellaneous h23 h20 h7,
    decodeMiscellaneous, if_neg hbx, if_pos ⟨hcode, h16, h0⟩]

theorem decode_msrRegWord {pd whole : Bool} :
    decode (msrRegWord c pd whole rm) = .ok (if whole then .msrReg c pd rm else .msrFlagsReg c pd rm) := by
  generalize hw : msrRegWord c pd whole rm = w
  obtain ⟨hc, hcode, rfl, hfield, h4, rfl⟩ := msrRegWord_eq_iff.mp hw
  have h17 : w.extractLsb' 17 5 = 0b10100#5 := by
    obtain ⟨hhigh, -⟩ := (extractLsb'_eq_append_iff (m := 5 + 1) (n := 4)).mp hfield
    exact (extractLsb'_eq_append_iff.mp hhigh).1
  have hclass : w.extractLsb' 25 3 = 0b000#3 := extractLsb'_of_eq hcode 2 3
  have h23 : w.extractLsb' 23 2 = 0b10#2 := extractLsb'_of_eq hcode 0 2
  have h20 : w.getLsbD 20 = false := getLsbD_of_eq h17 3
  have h7 : w.getLsbD 7 = false := getLsbD_of_eq h4 3
  have hbx : w.extractLsb' 4 24 ≠ 0x12FFF1#24 := fun h =>
    absurd (h17.symm.trans (extractLsb'_of_eq h 13 5)) (by decide)
  have hmrs : w.extractLsb' 16 6 ≠ 0b001111#6 := fun h =>
    absurd (h17.symm.trans (extractLsb'_of_eq h 1 5)) (by decide)
  rw [decode_of_cond hc, decodeClass_register hclass, decodeRegisterClass_miscellaneous h23 h20 h7,
    decodeMiscellaneous, if_neg hbx, if_neg (fun h => hmrs h.2.1), hcode, h4, hfield]
  cases whole <;> rfl

theorem decode_msrImmWord {pd : Bool} {o : RotImm} : decode (msrImmWord c pd o) = .ok (.msrFlagsImm c pd o) := by
  generalize hw : msrImmWord c pd o = w
  obtain ⟨hc, hcode, rfl, h12, rfl⟩ := msrImmWord_eq_iff.mp hw
  have hclass : w.extractLsb' 25 3 = 0b001#3 := extractLsb'_of_eq hcode 2 3
  have h23 : w.extractLsb' 23 2 = 0b10#2 := extractLsb'_of_eq hcode 0 2
  have h20 : w.getLsbD 20 = false := getLsbD_of_eq h12 8
  rw [decode_of_cond hc, decodeClass_immediate hclass, decodeImmediateClass, if_pos ⟨h23, h20⟩, if_pos ⟨hcode, h12⟩]

theorem decode_sdtImmWord {off : BitVec 12} :
    decode (sdtImmWord c p u b wb l rn rd off) = .ok (sdtImmInstr l b p wb c u rn rd off) := by
  generalize hw : sdtImmWord c p u b wb l rn rd off = w
  obtain ⟨hc, hclass, rfl, rfl, rfl, rfl, rfl, rfl, rfl, rfl⟩ := sdtImmWord_eq_iff.mp hw
  rw [decode_of_cond hc, decodeClass_offsetImmediate hclass]

theorem decode_sdtRegWord {o : ShiftImm} :
    decode (sdtRegWord c p u b wb l rn rd o) = .ok (sdtRegInstr l b p wb c u rn rd o) := by
  generalize hw : sdtRegWord c p u b wb l rn rd o = w
  obtain ⟨hc, hclass, rfl, rfl, rfl, rfl, rfl, rfl, rfl, hamount, hkind, h4, hrm⟩ := sdtRegWord_eq_iff.mp hw
  simp only [decode_of_cond hc, decodeClass_offsetRegister hclass, decodeOffsetRegisterClass, h4, Bool.false_eq_true,
    if_false, shiftImmField_eq_iff.mpr ⟨hamount, hkind, hrm⟩]

theorem decode_undefinedWord {hi : BitVec 20} {lo : BitVec 4} :
    decode (undefinedWord c hi lo) = .ok (.undefined c hi lo) := by
  generalize hw : undefinedWord c hi lo = w
  obtain ⟨hc, hclass, rfl, h4, rfl⟩ := undefinedWord_eq_iff.mp hw
  rw [decode_of_cond hc, decodeClass_offsetRegister hclass, decodeOffsetRegisterClass, if_pos h4]

theorem decode_blockWord {list : BitVec 16} :
    decode (blockWord c p u s wb l rn list) = .ok (blockInstr s l p u c wb rn list) := by
  generalize hw : blockWord c p u s wb l rn list = w
  obtain ⟨hc, hclass, rfl, rfl, rfl, rfl, rfl, rfl, rfl⟩ := blockWord_eq_iff.mp hw
  rw [decode_of_cond hc, decodeClass_block hclass]

theorem decode_branchWord {off : BitVec 24} :
    decode (branchWord c l off) = .ok (if l then .bl c off else .b c off) := by
  generalize hw : branchWord c l off = w
  obtain ⟨hc, hclass, rfl, rfl⟩ := branchWord_eq_iff.mp hw
  rw [decode_of_cond hc, decodeClass_branch hclass]

theorem decode_copTransferWord {n : Bool} {crd cp : Reg} {off : BitVec 8} :
    decode (copTransferWord c p u n wb l rn crd cp off) =
      .ok (if l then .ldc c p u n wb rn crd cp off else .stc c p u n wb rn crd cp off) := by
  generalize hw : copTransferWord c p u n wb l rn crd cp off = w
  obtain ⟨hc, hclass, rfl, rfl, rfl, rfl, rfl, rfl, rfl, rfl, rfl⟩ := copTransferWord_eq_iff.mp hw
  rw [decode_of_cond hc, decodeClass_coprocessorTransfer hclass, decodeCoprocessorTransfer]

theorem decode_copDataWord {opc : BitVec 4} {crn crd cp crm : Reg} {info : BitVec 3} :
    decode (copDataWord c opc crn crd cp info crm) = .ok (.cdp c opc crn crd cp info crm) := by
  generalize hw : copDataWord c opc crn crd cp info crm = w
  obtain ⟨hc, h24, rfl, rfl, rfl, rfl, rfl, h4, rfl⟩ := copDataWord_eq_iff.mp hw
  have hclass : w.extractLsb' 25 3 = 0b111#3 := extractLsb'_of_eq h24 1 3
  have hswi : w.getLsbD 24 = false := getLsbD_of_eq h24 0
  simp only [decode_of_cond hc, decodeClass_trap hclass, decodeTrapClass, hswi, h4, Bool.false_eq_true, if_false,
    if_true]

theorem decode_copRegisterWord {opc : BitVec 3} {crn cp crm : Reg} {info : BitVec 3} :
    decode (copRegisterWord c opc l crn rd cp info crm) =
      .ok (if l then .mrc c opc crn rd cp info crm else .mcr c opc crn rd cp info crm) := by
  generalize hw : copRegisterWord c opc l crn rd cp info crm = w
  obtain ⟨hc, h24, rfl, rfl, rfl, rfl, rfl, rfl, h4, rfl⟩ := copRegisterWord_eq_iff.mp hw
  have hclass : w.extractLsb' 25 3 = 0b111#3 := extractLsb'_of_eq h24 1 3
  have hswi : w.getLsbD 24 = false := getLsbD_of_eq h24 0
  simp only [decode_of_cond hc, decodeClass_trap hclass, decodeTrapClass, hswi, h4, Bool.false_eq_true,
    Bool.true_eq_false, if_false]

theorem decode_swiWord {comment : BitVec 24} : decode (swiWord c comment) = .ok (.swi c comment) := by
  generalize hw : swiWord c comment = w
  obtain ⟨hc, h24, rfl⟩ := swiWord_eq_iff.mp hw
  have hclass : w.extractLsb' 25 3 = 0b111#3 := extractLsb'_of_eq h24 1 3
  have hswi : w.getLsbD 24 = true := getLsbD_of_eq h24 0
  rw [decode_of_cond hc, decodeClass_trap hclass, decodeTrapClass, if_pos hswi]

end

/-! ### The word of each decoded instruction -/

/-- `w` is the word of the well-formed instruction `i`. -/
structure Encodes (i : Instr) (w : Word) : Prop where
  word : encode i = w
  wf : i.wf = true

theorem Encodes.of_eq {i : Instr} {v w : Word} (h : Encodes i v) (hv : v = w) : Encodes i w := hv ▸ h

section

variable {c : Cond} {op : Opcode} {sf p u b wb l s h : Bool} {rn rd rm : Reg}

theorem encodes_dataImmInstr {o : RotImm} (htest : op.isTest = true → sf = true) :
    Encodes (dataImmInstr op c sf rn rd o) (dataImmWord c op sf rn rd o) := by
  cases op with
  | tst | teq | cmp | cmn => rw [htest rfl]; exact ⟨rfl, rfl⟩
  | _ => exact ⟨rfl, rfl⟩

theorem encodes_dataShiftInstr {o : ShiftImm} (htest : op.isTest = true → sf = true) :
    Encodes (dataShiftInstr op c sf rn rd o) (dataShiftWord c op sf rn rd o) := by
  cases op with
  | tst | teq | cmp | cmn => rw [htest rfl]; exact ⟨rfl, rfl⟩
  | _ => exact ⟨rfl, rfl⟩

theorem encodes_dataRegShiftInstr {o : ShiftReg} (htest : op.isTest = true → sf = true) :
    Encodes (dataRegShiftInstr op c sf rn rd o) (dataRegShiftWord c op sf rn rd o) := by
  cases op with
  | tst | teq | cmp | cmn => rw [htest rfl]; exact ⟨rfl, rfl⟩
  | _ => exact ⟨rfl, rfl⟩

theorem encodes_halfRegInstr {i : Instr} (hi : halfRegInstr l s h c p u wb rn rd rm = .ok i) :
    Encodes i (halfRegWord c p u wb l s h rn rd rm) := by
  unfold halfRegInstr at hi
  split at hi <;> cases hi <;> exact ⟨rfl, rfl⟩

theorem encodes_halfImmInstr {off : BitVec 8} {i : Instr} (hi : halfImmInstr l s h c p u wb rn rd off = .ok i) :
    Encodes i (halfImmWord c p u wb l s h rn rd off) := by
  unfold halfImmInstr at hi
  split at hi <;> cases hi <;> exact ⟨rfl, rfl⟩

theorem encodes_sdtImmInstr {off : BitVec 12} :
    Encodes (sdtImmInstr l b p wb c u rn rd off) (sdtImmWord c p u b wb l rn rd off) := by
  unfold sdtImmInstr
  split <;> exact ⟨rfl, rfl⟩

theorem encodes_sdtRegInstr {o : ShiftImm} :
    Encodes (sdtRegInstr l b p wb c u rn rd o) (sdtRegWord c p u b wb l rn rd o) := by
  unfold sdtRegInstr
  split <;> exact ⟨rfl, rfl⟩

theorem encodes_blockInstr {list : BitVec 16} :
    Encodes (blockInstr s l p u c wb rn list) (blockWord c p u s wb l rn list) := by
  unfold blockInstr
  split
  case h_1 =>
    split
    · next hr15 => exact ⟨rfl, hr15⟩
    · next hr15 => exact ⟨rfl, by simpa [Instr.wf] using hr15⟩
  all_goals exact ⟨rfl, rfl⟩

end

/-! ### What each part of the decoder answers -/

section

variable {w : Word} {c : Cond} {i : Instr}

theorem encodes_of_decodeMultiplySwap (hc : w.extractLsb' 28 4 = c.bits) (h4 : w.extractLsb' 4 4 = 0b1001#4)
    (h : decodeMultiplySwap c w = .ok i) : Encodes i w := by
  unfold decodeMultiplySwap at h
  split at h
  · next h22 =>
    split at h <;> cases h <;> next h21 =>
      exact ⟨mulWord_eq_iff.mpr ⟨hc, h22, by simpa using h21, rfl, rfl, rfl, rfl, h4, rfl⟩, rfl⟩
  · split at h
    · next h23 =>
      split at h <;> cases h <;> next hu ha =>
        exact ⟨mulLongWord_eq_iff.mpr ⟨hc, h23, hu, ha, rfl, rfl, rfl, rfl, h4, rfl⟩, rfl⟩
    · split at h
      · next hswap =>
        obtain ⟨h23, h20, h8⟩ := hswap
        split at h <;> cases h <;> next hb =>
          exact ⟨swapWord_eq_iff.mpr ⟨hc, h23, by simpa using hb, h20, rfl, rfl, h8, h4, rfl⟩, rfl⟩
      · cases h

theorem encodes_of_decodeHalfword (hc : w.extractLsb' 28 4 = c.bits) (hclass : w.extractLsb' 25 3 = 0b000#3)
    (h7 : w.getLsbD 7 = true) (h4 : w.getLsbD 4 = true) (h : decodeHalfword c w = .ok i) : Encodes i w := by
  unfold decodeHalfword at h
  split at h
  · next h22 =>
    obtain ⟨hi, ho⟩ := append_eq_iff.mp (Eq.refl (w.extractLsb' 8 4 ++ w.extractLsb' 0 4))
    exact (encodes_halfImmInstr h).of_eq (halfImmWord_eq_iff.mpr
      ⟨hc, hclass, rfl, rfl, h22, rfl, rfl, rfl, rfl, hi.symm, h7, rfl, rfl, h4, ho.symm⟩)
  · next h22 =>
    split at h
    · next h8 =>
      exact (encodes_halfRegInstr h).of_eq (halfRegWord_eq_iff.mpr
        ⟨hc, hclass, rfl, rfl, by simpa using h22, rfl, rfl, rfl, rfl, h8, h7, rfl, rfl, h4, rfl⟩)
    · cases h

theorem encodes_of_decodeMiscellaneous (hc : w.extractLsb' 28 4 = c.bits) (h : decodeMiscellaneous c w = .ok i) :
    Encodes i w := by
  unfold decodeMiscellaneous at h
  split at h
  · next hbx => cases h; exact ⟨bxWord_eq_iff.mpr ⟨hc, hbx, rfl⟩, rfl⟩
  · split at h
    · next hmrs =>
      obtain ⟨hcode, h16, h0⟩ := hmrs
      cases h
      exact ⟨mrsWord_eq_iff.mpr ⟨hc, hcode, rfl, h16, rfl, h0⟩, rfl⟩
    · split at h
      · next hmsr =>
        obtain ⟨hcode, hfield, h4⟩ := hmsr
        cases h
        exact ⟨msrRegWord_eq_iff.mpr ⟨hc, hcode, rfl, hfield, h4, rfl⟩, rfl⟩
      · split at h
        · next hflags =>
          obtain ⟨hcode, hfield, h4⟩ := hflags
          cases h
          exact ⟨msrRegWord_eq_iff.mpr ⟨hc, hcode, rfl, hfield, h4, rfl⟩, rfl⟩
        · cases h

theorem encodes_of_decodeRegisterClass (hc : w.extractLsb' 28 4 = c.bits) (hclass : w.extractLsb' 25 3 = 0b000#3)
    (h : decodeRegisterClass c w = .ok i) : Encodes i w := by
  have hop : w.extractLsb' 21 4 = (Opcode.ofBits (w.extractLsb' 21 4)).bits := (Opcode.bits_ofBits _).symm
  have hkind : w.extractLsb' 5 2 = (ShiftKind.ofBits (w.extractLsb' 5 2)).bits := (ShiftKind.bits_ofBits _).symm
  unfold decodeRegisterClass at h
  split at h
  · next h47 =>
    obtain ⟨h4, h7⟩ := h47
    split at h
    · next h5 => exact encodes_of_decodeMultiplySwap hc (multiplyPattern_iff.mpr ⟨h7, h5, h4⟩) h
    · exact encodes_of_decodeHalfword hc hclass h7 h4 h
  · next h47 =>
    split at h
    · exact encodes_of_decodeMiscellaneous hc h
    · next hpattern =>
      have htest := (testPattern_iff hop).not_left.mp hpattern
      split at h <;> cases h
      · next h4 =>
        have h7 : w.getLsbD 7 = false := by simpa [h4] using h47
        exact (encodes_dataRegShiftInstr htest).of_eq (dataRegShiftWord_eq_iff.mpr
          ⟨hc, hclass, hop, rfl, rfl, rfl, rfl, h7, hkind, h4, rfl⟩)
      · next h4 =>
        exact (encodes_dataShiftInstr htest).of_eq (dataShiftWord_eq_iff.mpr
          ⟨hc, hclass, hop, rfl, rfl, rfl, rfl, hkind, by simpa using h4, rfl⟩)

theorem encodes_of_decodeImmediateClass (hc : w.extractLsb' 28 4 = c.bits) (hclass : w.extractLsb' 25 3 = 0b001#3)
    (h : decodeImmediateClass c w = .ok i) : Encodes i w := by
  have hop : w.extractLsb' 21 4 = (Opcode.ofBits (w.extractLsb' 21 4)).bits := (Opcode.bits_ofBits _).symm
  unfold decodeImmediateClass at h
  split at h
  · split at h
    · next hmsr =>
      obtain ⟨hcode, hfield⟩ := hmsr
      cases h
      exact ⟨msrImmWord_eq_iff.mpr ⟨hc, hcode, rfl, hfield, rfl⟩, rfl⟩
    · cases h
  · next hpattern =>
    cases h
    have htest := (testPattern_iff hop).not_left.mp hpattern
    exact (encodes_dataImmInstr htest).of_eq (dataImmWord_eq_iff.mpr ⟨hc, hclass, hop, rfl, rfl, rfl, rfl⟩)

theorem encodes_decodeOffsetRegisterClass (hc : w.extractLsb' 28 4 = c.bits)
    (hclass : w.extractLsb' 25 3 = 0b011#3) : Encodes (decodeOffsetRegisterClass c w) w := by
  unfold decodeOffsetRegisterClass
  split
  · next h4 => exact ⟨undefinedWord_eq_iff.mpr ⟨hc, hclass, rfl, h4, rfl⟩, rfl⟩
  · next h4 =>
    have hkind : w.extractLsb' 5 2 = (ShiftKind.ofBits (w.extractLsb' 5 2)).bits := (ShiftKind.bits_ofBits _).symm
    exact encodes_sdtRegInstr.of_eq (sdtRegWord_eq_iff.mpr
      ⟨hc, hclass, rfl, rfl, rfl, rfl, rfl, rfl, rfl, rfl, hkind, by simpa using h4, rfl⟩)

theorem encodes_decodeCoprocessorTransfer (hc : w.extractLsb' 28 4 = c.bits)
    (hclass : w.extractLsb' 25 3 = 0b110#3) : Encodes (decodeCoprocessorTransfer c w) w := by
  unfold decodeCoprocessorTransfer
  split <;> next hl =>
    exact ⟨copTransferWord_eq_iff.mpr ⟨hc, hclass, rfl, rfl, rfl, rfl, by simpa using hl, rfl, rfl, rfl, rfl⟩, rfl⟩

theorem encodes_decodeTrapClass (hc : w.extractLsb' 28 4 = c.bits) (hclass : w.extractLsb' 25 3 = 0b111#3) :
    Encodes (decodeTrapClass c w) w := by
  have hcode {b : Bool} (h : w.getLsbD 24 = b) : w.extractLsb' 24 4 = 0b111#3 ++ BitVec.ofBool b :=
    extractLsb'_eq_append_iff.mpr ⟨hclass, extractLsb'_eq_ofBool_iff.mpr h⟩
  unfold decodeTrapClass
  split
  · next h24 => exact ⟨swiWord_eq_iff.mpr ⟨hc, hcode h24, rfl⟩, rfl⟩
  · next h24 =>
    have h24 := hcode (b := false) (by simpa using h24)
    split
    · next h4 => exact ⟨copDataWord_eq_iff.mpr ⟨hc, h24, rfl, rfl, rfl, rfl, rfl, h4, rfl⟩, rfl⟩
    · next h4 =>
      split <;> next hl =>
        exact ⟨copRegisterWord_eq_iff.mpr
          ⟨hc, h24, rfl, by simpa using hl, rfl, rfl, rfl, rfl, by simpa using h4, rfl⟩, rfl⟩

theorem encodes_of_decodeClass (hc : w.extractLsb' 28 4 = c.bits) (h : decodeClass c w = .ok i) : Encodes i w := by
  have hcases : ∀ x : BitVec 3, x = 0b000#3 ∨ x = 0b001#3 ∨ x = 0b010#3 ∨ x = 0b011#3 ∨ x = 0b100#3 ∨ x = 0b101#3 ∨
      x = 0b110#3 ∨ x = 0b111#3 := by decide
  obtain hclass | hclass | hclass | hclass | hclass | hclass | hclass | hclass := hcases (w.extractLsb' 25 3)
  · rw [decodeClass_register hclass] at h
    exact encodes_of_decodeRegisterClass hc hclass h
  · rw [decodeClass_immediate hclass] at h
    exact encodes_of_decodeImmediateClass hc hclass h
  · rw [decodeClass_offsetImmediate hclass] at h
    cases h
    exact encodes_sdtImmInstr.of_eq (sdtImmWord_eq_iff.mpr
      ⟨hc, hclass, rfl, rfl, rfl, rfl, rfl, rfl, rfl, rfl⟩)
  · rw [decodeClass_offsetRegister hclass] at h
    cases h
    exact encodes_decodeOffsetRegisterClass hc hclass
  · rw [decodeClass_block hclass] at h
    cases h
    exact encodes_blockInstr.of_eq (blockWord_eq_iff.mpr ⟨hc, hclass, rfl, rfl, rfl, rfl, rfl, rfl, rfl⟩)
  · rw [decodeClass_branch hclass] at h
    cases h
    split <;> next hl => exact ⟨branchWord_eq_iff.mpr ⟨hc, hclass, by simpa using hl, rfl⟩, rfl⟩
  · rw [decodeClass_coprocessorTransfer hclass] at h
    cases h
    exact encodes_decodeCoprocessorTransfer hc hclass
  · rw [decodeClass_trap hclass] at h
    cases h
    exact encodes_decodeTrapClass hc hclass

end

/-! ### The obligations -/

/-- Settles O1, by the format of the word that each instruction is written in. -/
theorem decodeEncodeRoundTrip : Obligations.DecodeEncodeRoundTrip := by
  intro i hwf
  cases i with
  | andImm | eorImm | subImm | rsbImm | addImm | adcImm | sbcImm | rscImm | orrImm | movImm | bicImm | mvnImm =>
    exact (decode_dataImmWord (by nofun)).trans rfl
  | tstImm | teqImm | cmpImm | cmnImm => exact (decode_dataImmWord fun _ => rfl).trans rfl
  | andShift | eorShift | subShift | rsbShift | addShift | adcShift | sbcShift | rscShift | orrShift | movShift
  | bicShift | mvnShift => exact (decode_dataShiftWord (by nofun)).trans rfl
  | tstShift | teqShift | cmpShift | cmnShift => exact (decode_dataShiftWord fun _ => rfl).trans rfl
  | andRegShift | eorRegShift | subRegShift | rsbRegShift | addRegShift | adcRegShift | sbcRegShift | rscRegShift
  | orrRegShift | movRegShift | bicRegShift | mvnRegShift => exact (decode_dataRegShiftWord (by nofun)).trans rfl
  | tstRegShift | teqRegShift | cmpRegShift | cmnRegShift => exact (decode_dataRegShiftWord fun _ => rfl).trans rfl
  | mul | mla => exact decode_mulWord.trans rfl
  | umull | umlal | smull | smlal => exact decode_mulLongWord.trans rfl
  | swp | swpb => exact decode_swapWord.trans rfl
  | strhReg | ldrhReg | ldrsbReg | ldrshReg => exact (decode_halfRegWord rfl).trans rfl
  | strhImm | ldrhImm | ldrsbImm | ldrshImm => exact (decode_halfImmWord rfl).trans rfl
  | bx => exact decode_bxWord
  | mrs => exact decode_mrsWord
  | msrReg | msrFlagsReg => exact decode_msrRegWord.trans rfl
  | msrFlagsImm => exact decode_msrImmWord
  | ldrImmPre | ldrImmPost | ldrtImm | ldrbImmPre | ldrbImmPost | ldrbtImm
  | strImmPre | strImmPost | strtImm | strbImmPre | strbImmPost | strbtImm => exact decode_sdtImmWord.trans rfl
  | ldrRegPre | ldrRegPost | ldrtReg | ldrbRegPre | ldrbRegPost | ldrbtReg
  | strRegPre | strRegPost | strtReg | strbRegPre | strbRegPost | strbtReg => exact decode_sdtRegWord.trans rfl
  | undefined => exact decode_undefinedWord
  | ldmda | ldmia | ldmdb | ldmib | stmda | stmia | stmdb | stmib | stmUser => exact decode_blockWord.trans rfl
  | ldmRestore c p u w rn list =>
    have hr15 : list.getLsbD 15 = true := hwf
    exact decode_blockWord.trans (congrArg Except.ok (if_pos hr15))
  | ldmUser c p u w rn list =>
    have hr15 : (!list.getLsbD 15) = true := hwf
    exact decode_blockWord.trans (congrArg Except.ok (if_neg (by simpa using hr15)))
  | b | bl => exact decode_branchWord.trans rfl
  | ldc | stc => exact decode_copTransferWord.trans rfl
  | cdp => exact decode_copDataWord
  | mcr | mrc => exact decode_copRegisterWord.trans rfl
  | swi => exact decode_swiWord

/-- Settles O2, by the part of the decoder that answers. -/
theorem encodeDecodeRoundTrip : Obligations.EncodeDecodeRoundTrip := by
  intro w i h
  unfold decode at h
  split at h
  · cases h
  · next c hc =>
    obtain ⟨hword, hwf⟩ := encodes_of_decodeClass (Cond.bits_of_ofBits hc).symm h
    exact ⟨hword, hwf⟩

/-- Settles O3. -/
theorem reservedConditionIsRefused : Obligations.ReservedConditionIsRefused := by
  intro w h
  simp only [decode, Cond.ofBits_eq_none.mpr h]

end Sys2Proof

/-! SUPPORT. The condition of every instruction and rotated immediates (30_encoding.md R170, R171, R196): what O17, O18 and O21
rest on. -/

namespace Sys2Proof.Machine

/-! ### Conditions -/

/-- Every instruction is a meaning under its condition (30_encoding.md R170): so each constructor's arm of `exec` is
written. -/
theorem exec_conditional (i : Instr) (s : State) : ∃ body, exec i s = conditionally i.cond s body := by
  cases i <;> exact ⟨_, rfl⟩

/-! ### Rotated immediates (30_encoding.md R196) -/

/-- A rotation right takes each bit from `r` places above it, around the end of the word. -/
theorem getLsbD_rotateRight_mod (x : Word) {r i : Nat} (hr : r < 32) (hi : i < 32) :
    (x.rotateRight r).getLsbD i = x.getLsbD ((i + r) % 32) := by
  rw [BitVec.getLsbD_rotateRight_of_lt hr]
  by_cases hlow : i < 32 - r
  · have hsource : (i + r) % 32 = r + i := by omega
    simp only [hlow, hsource, decide_true, cond_true]
  · have hsource : (i + r) % 32 = i - (32 - r) := by omega
    simp only [hlow, hi, hsource, decide_true, decide_false, cond_false, Bool.true_and]

theorem rotImmValue_getLsbD (o : RotImm) {i : Nat} (hi : i < 32) :
    (rotImmValue o).getLsbD i =
      (decide ((i + 2 * o.rot.toNat) % 32 < 8) && o.imm.getLsbD ((i + 2 * o.rot.toNat) % 32)) := by
  have hrot := o.rot.isLt
  rw [rotImmValue, getLsbD_rotateRight_mod _ (by omega) hi]
  generalize hk : (i + 2 * o.rot.toNat) % 32 = k
  have hword : k < 32 := by omega
  by_cases hbyte : k < 8
  · simp only [BitVec.getLsbD_setWidth, hword, hbyte, decide_true]
  · simp only [BitVec.getLsbD_setWidth, hbyte, BitVec.getLsbD_of_ge _ _ (Nat.le_of_not_lt hbyte), Bool.and_false]

/-! ### The obligations -/

/-- Settles O17: whatever the instruction's body, it is not run. -/
theorem failedConditionOnlyAdvances : Obligations.FailedConditionOnlyAdvances := by
  intro i s hfail
  obtain ⟨body, hexec⟩ := exec_conditional i s
  rw [hexec, conditionally_fail hfail]
  exact ⟨advance_of_ne, fun htop => by simp [advance, htop]⟩

/-- Settles O21. -/
theorem rotatedImmediate : Obligations.RotatedImmediate := by
  intro o s
  refine ⟨fun i hi => rotImmValue_getLsbD o hi, ?_⟩
  simp only [immOperand, BitVec.msb_eq_getLsbD_last]

/-- Settles O18: the codes are those of the conditions, and each row of the table is read off `condPassed`. -/
theorem conditionTable : Obligations.ConditionTable := by
  intro p
  refine ⟨⟨Cond.ofBits_bits .eq, ?_⟩, ⟨Cond.ofBits_bits .ne, ?_⟩, ⟨Cond.ofBits_bits .cs, ?_⟩,
    ⟨Cond.ofBits_bits .cc, ?_⟩, ⟨Cond.ofBits_bits .mi, ?_⟩, ⟨Cond.ofBits_bits .pl, ?_⟩, ⟨Cond.ofBits_bits .vs, ?_⟩,
    ⟨Cond.ofBits_bits .vc, ?_⟩, ⟨Cond.ofBits_bits .hi, ?_⟩, ⟨Cond.ofBits_bits .ls, ?_⟩, ⟨Cond.ofBits_bits .ge, ?_⟩,
    ⟨Cond.ofBits_bits .lt, ?_⟩, ⟨Cond.ofBits_bits .gt, ?_⟩, ⟨Cond.ofBits_bits .le, ?_⟩, ⟨Cond.ofBits_bits .al, rfl⟩,
    Cond.ofBits_eq_none.mpr rfl⟩ <;> simp [condPassed]

end Sys2Proof.Machine

/-! SUPPORT. Branch targets (40_branch.md R221 to R224), and what keeps the invariant along a step (60_exceptions.md R527):
what O5, O7, O28 and O29 rest on. -/

namespace Sys2Proof.Machine

/-! ### The words of instructions -/

/-- A word that a well-formed instruction encodes to decodes to that instruction. -/
theorem decode_of_encode {i : Instr} {w : Word} (h : encode i = w) (hwf : i.wf = true) : decode w = .ok i :=
  h ▸ decodeEncodeRoundTrip i hwf

/-! ### Branch targets (40_branch.md R223) -/

theorem branchOffset_eq_ofInt (off : BitVec 24) : branchOffset off = BitVec.ofInt 32 (4 * off.toInt) := by
  have hsigned : (off ++ 0b00#2).toInt = 4 * off.toInt := by rw [BitVec.toInt_append]; simp
  rw [branchOffset, BitVec.signExtend, hsigned]

theorem branchTarget_eq_ofInt (pc : Word) (off : BitVec 24) :
    pc + 8#32 + branchOffset off = BitVec.ofInt 32 (pc.toNat + 8 + 4 * off.toInt) := by
  have hpc : BitVec.ofInt 32 pc.toNat = pc := by rw [BitVec.ofInt_natCast, BitVec.ofNat_toNat, BitVec.setWidth_eq]
  rw [BitVec.ofInt_add, BitVec.ofInt_add, hpc, branchOffset_eq_ofInt]
  rfl

/-- A word is a multiple of four if its two low bits are clear. -/
theorem wordAligned_iff {a : Word} : wordAligned a = true ↔ a.getLsbD 0 = false ∧ a.getLsbD 1 = false := by
  have hsplit : a.extractLsb' 0 2 = 0b00#2 ↔ a.extractLsb' 1 1 = 0#1 ∧ a.extractLsb' 0 1 = 0#1 :=
    extractLsb'_eq_append_iff (x := 0#1) (y := 0#1)
  rw [wordAligned, beq_iff_eq, hsplit, extractLsb'_eq_zero_iff, extractLsb'_eq_zero_iff, and_comm]

theorem wordAligned_branchOffset (off : BitVec 24) : wordAligned (branchOffset off) = true := by
  have hlow : ∀ i < 2, (branchOffset off).getLsbD i = false := fun i hi => by
    rw [branchOffset, BitVec.getLsbD_signExtend, BitVec.getLsbD_append]
    simp [hi, show i < 26 by omega]
  exact wordAligned_iff.mpr ⟨hlow 0 (by decide), hlow 1 (by decide)⟩

/-! ### The states in which an instruction runs -/

/-- What `step` has ensured when it runs an instruction (60_exceptions.md R527): canonical memory, ARM state, an aligned
PC, and the hazard of a user-bank LDM discharged. -/
structure State.Ready (s : State) : Prop where
  mem_wf : s.mem.wf = true
  arm : s.cpsr.t = false
  pc_aligned : wordAligned s.pc = true
  no_hazard : s.bankHazard = false

theorem RegsOnly.ready {s t : State} (h : RegsOnly s t) (hs : s.Ready) : t.Ready where
  mem_wf := h.mem ▸ hs.mem_wf
  arm := h.cpsr ▸ hs.arm
  pc_aligned := h.pc ▸ hs.pc_aligned
  no_hazard := h.bankHazard ▸ hs.no_hazard

theorem RegsOnly.hasBank {s t : State} (h : RegsOnly s t) : t.hasBank = s.hasBank :=
  congrArg Option.isSome (State.spsr_congr (congrArg PSR.m h.cpsr) h.spsrFiq h.spsrIrq h.spsrSvc h.spsrAbt h.spsrUnd)

theorem CoreKept.ready {s t : State} (h : CoreKept s t) (hm : s.mem.wf = true → t.mem.wf = true) (hs : s.Ready) :
    t.Ready where
  mem_wf := hm hs.mem_wf
  arm := h.cpsr ▸ hs.arm
  pc_aligned := h.pc ▸ hs.pc_aligned
  no_hazard := h.bankHazard ▸ hs.no_hazard

namespace State.Ready

variable {s : State} (hs : s.Ready)
include hs

theorem setPc {x : Word} (hx : wordAligned x = true) : ({ s with pc := x } : State).Ready :=
  ⟨hs.mem_wf, hs.arm, hx, hs.no_hazard⟩

/-- A write of the CPSR that leaves T alone: mode, masks and flags do not matter. -/
theorem setCpsr {p : PSR} (hp : p.t = s.cpsr.t) : ({ s with cpsr := p } : State).Ready :=
  ⟨hs.mem_wf, hp.trans hs.arm, hs.pc_aligned, hs.no_hazard⟩

theorem drawn : s.drawn.Ready := ⟨hs.mem_wf, hs.arm, hs.pc_aligned, hs.no_hazard⟩

theorem setAluFlags (r : AluResult) : (s.setAluFlags r).Ready := hs.setCpsr rfl

theorem setMulFlags (r : Word) : (s.setMulFlags r).Ready := hs.drawn.setCpsr rfl

theorem setLongFlags (r : BitVec 64) : (s.setLongFlags r).Ready := hs.drawn.drawn.setCpsr rfl

theorem setFlagsOf (v : Word) : ({ s with cpsr := s.cpsr.withFlagsOf v } : State).Ready := hs.setCpsr rfl

theorem setSpsr (p : PSR) : (s.setSpsr p).Ready := by
  unfold State.setSpsr
  split
  · exact ⟨by simpa using hs.mem_wf, by simpa using hs.arm, by simpa using hs.pc_aligned,
      by simpa using hs.no_hazard⟩
  · exact hs

/-- The hazard may become pending in a mode that has an SPSR. -/
theorem inv_setBankHazard {b : Bool} (hb : b = true → s.hasBank = true) :
    ({ s with bankHazard := b } : State).Inv where
  mem_wf := hs.mem_wf
  pc_arm _ := hs.pc_aligned
  pc_thumb ht := absurd (hs.arm.symm.trans ht) (by decide)
  hazard_bank := hb

theorem inv : s.Inv :=
  hs.inv_setBankHazard (b := s.bankHazard) fun hb => absurd (hs.no_hazard.symm.trans hb) (by decide)

end State.Ready

/-! ### Ends that reach a state of the invariant -/

/-- The invariant after an instruction that ran in a ready state. -/
def InvAfter (s t : State) : Prop := s.Ready → t.Inv

theorem InvAfter.keeps {s s1 : State} {o : Outcome} (h : s.Ready → s1.Ready) (ho : Keeps InvAfter s1 o) :
    Keeps InvAfter s o :=
  ⟨fun t ht hs => ho.next t ht (h hs)⟩

theorem ExceptionKind.vector_aligned (k : ExceptionKind) : wordAligned k.vector = true := by
  cases k <;> decide

/-- Every exception is taken in ARM state at an aligned vector, without a hazard (60_exceptions.md R505, R511). -/
theorem enterException_inv (k : ExceptionKind) (l : Word) {s : State} (hm : s.mem.wf = true) :
    (enterException k l s).Inv where
  mem_wf := by simpa using hm
  pc_arm _ := k.vector_aligned
  pc_thumb := nofun
  hazard_bank := nofun

/-- A completed write of the PC aligns it for the state it leaves, ARM or THUMB (40_branch.md R221). -/
theorem writePc_inv {x : Word} {s t : State} (hm : s.mem.wf = true) (hh : s.bankHazard = false)
    (h : writePc x s = .next t) : t.Inv := by
  have hazard : s.bankHazard = true → s.hasBank = true := fun hb => absurd (hh.symm.trans hb) (by decide)
  obtain ⟨ht, rfl⟩ | ⟨ht, hx, rfl⟩ := writePc_next h
  · exact ⟨hm, fun ha => absurd (ht.symm.trans ha) (by decide), fun _ => by simp, hazard⟩
  · exact ⟨hm, fun _ => hx, fun ha => absurd (ht.symm.trans ha) (by decide), hazard⟩

theorem advance_inv {s t : State} (hs : s.Inv) (ht : s.cpsr.t = false) (h : advance s = .next t) : t.Inv := by
  obtain ⟨-, rfl⟩ := advance_next_iff.mp h
  exact ⟨hs.mem_wf, fun _ => wordAligned_add (hs.pc_arm ht) rfl, fun ha => absurd (ht.symm.trans ha) (by decide),
    hs.hazard_bank⟩

theorem enterException_keepsInv (k : ExceptionKind) (l : Word) (s : State) :
    Keeps InvAfter s (.next (enterException k l s)) :=
  keeps_next fun hs => enterException_inv k l hs.mem_wf

theorem dataAbort_keepsInv (s : State) : Keeps InvAfter s (dataAbort s) :=
  enterException_keepsInv ..

theorem advance_keepsInv (s : State) : Keeps InvAfter s (advance s) :=
  ⟨fun _ ht hs => advance_inv hs.inv hs.arm ht⟩

/-- Whatever status register is restored or exchanged along with the PC. -/
theorem writePc_setCpsr_keepsInv (x : Word) (p : PSR) (s : State) :
    Keeps InvAfter s (writePc x { s with cpsr := p }) :=
  ⟨fun _ ht hs => writePc_inv (s := { s with cpsr := p }) hs.mem_wf hs.no_hazard ht⟩

theorem writePc_keepsInv (x : Word) (s : State) : Keeps InvAfter s (writePc x s) :=
  writePc_setCpsr_keepsInv x s.cpsr s

theorem exceptionReturn_keepsInv (x : Word) (s : State) : Keeps InvAfter s (exceptionReturn x s) := by
  refine ⟨fun t ht => ?_⟩
  obtain ⟨p, -, hpc⟩ := exceptionReturn_next ht
  exact (writePc_setCpsr_keepsInv x p s).next t hpc

theorem writeResult_keepsInv (sf : Bool) (rd : Reg) (r : AluResult) (s : State) :
    Keeps InvAfter s (writeResult sf rd r s) := by
  have hreg := (s.setReg_only rd r.val).ready
  refine ⟨fun t ht => ?_⟩
  obtain ⟨-, -, hend⟩ | ⟨-, -, hend⟩ | ⟨-, -, hend⟩ | ⟨-, -, hend⟩ := writeResult_next ht
  · exact (exceptionReturn_keepsInv _ _).next t hend
  · exact (writePc_keepsInv _ _).next t hend
  · exact (InvAfter.keeps (fun hs => (hreg hs).setAluFlags r) (advance_keepsInv _)).next t hend
  · exact (InvAfter.keeps hreg (advance_keepsInv _)).next t hend

theorem writeProduct_keepsInv (sf : Bool) (rd : Reg) (r : Word) (s : State) :
    Keeps InvAfter s (writeProduct sf rd r s) := by
  have hreg := (s.setReg_only rd r).ready
  unfold writeProduct
  split
  · exact InvAfter.keeps (fun hs => (hreg hs).setMulFlags r) (advance_keepsInv _)
  · exact InvAfter.keeps hreg (advance_keepsInv _)

theorem writeLongProduct_keepsInv (sf : Bool) (rdHi rdLo : Reg) (p : BitVec 64) (s : State) :
    Keeps InvAfter s (writeLongProduct sf rdHi rdLo p s) := by
  have hregs := ((s.setReg_only rdLo (p.extractLsb' 0 32)).trans (State.setReg_only _ rdHi (p.extractLsb' 32 32))).ready
  unfold writeLongProduct
  split
  · exact InvAfter.keeps (fun hs => (hregs hs).setLongFlags p) (advance_keepsInv _)
  · exact InvAfter.keeps hregs (advance_keepsInv _)

/-- MSR to the CPSR leaves T alone (42_psr_transfer.md R305, R306). -/
theorem writeWholeCpsr_keepsInv (v : Word) (s : State) : Keeps InvAfter s (writeWholeCpsr v s) := by
  refine ⟨fun t ht => ?_⟩
  obtain ⟨-, hbit, hend⟩ | ⟨-, hend⟩ := writeWholeCpsr_next ht
  · exact (InvAfter.keeps (fun hs => hs.setCpsr hbit) (advance_keepsInv _)).next t hend
  · exact (InvAfter.keeps (·.setFlagsOf v) (advance_keepsInv _)).next t hend

theorem changeSpsr_keepsInv (f : PSR → PSR) (s : State) : Keeps InvAfter s (changeSpsr f s) := by
  refine ⟨fun t ht => ?_⟩
  obtain ⟨p, -, hend⟩ := changeSpsr_next ht
  exact (InvAfter.keeps (fun hs => hs.setSpsr _) (advance_keepsInv _)).next t hend

theorem writePsrFlags_keepsInv (pd : Bool) (v : Word) (s : State) : Keeps InvAfter s (writePsrFlags pd v s) := by
  cases pd with
  | true => exact changeSpsr_keepsInv _ s
  | false => exact InvAfter.keeps (·.setFlagsOf v) (advance_keepsInv _)

/-! ### Single transfers and swaps -/

theorem LoadKind.load_ready {k : LoadKind} {a d : Word} {priv : Bool} {s t : State} (h : k.load a priv s = .done d t)
    (hs : s.Ready) : t.Ready := by
  obtain rfl | ⟨_, hunit⟩ := LoadKind.load_done_cases h
  · exact hs.drawn
  · obtain ⟨hcore, hmem⟩ := loadUnit_core hunit
    exact hcore.ready (hmem ▸ id) hs

theorem storeUnit_ready {z : Size} {a v : Word} {priv : Bool} {u : Unit} {s t : State}
    (h : storeUnit z a v priv s = .done u t) : s.Ready → t.Ready :=
  (storeUnit_core h).ready (storeUnit_wf h)

theorem storeOf_ready {z : Size} {a v : Word} {priv : Bool} {s t : State} (h : storeOf z a v priv s = .done () t) :
    s.Ready → t.Ready := by
  cases z with
  | byte => exact storeUnit_ready h
  | half => exact storeUnit_ready (storeHalf_done h)
  | word => exact storeUnit_ready (storeWord_done h)

theorem finishLoad_keepsInv {r : MemResult Word} {s : State} (hr : ∀ d t, r = .done d t → s.Ready → t.Ready)
    (x : Indexed) (rn rd : Reg) : Keeps InvAfter s (finishLoad r x rn rd s) := by
  have hbase := fun s1 : State => (s1.writeBase_only rn x).ready
  refine ⟨fun t ht => ?_⟩
  obtain ⟨d, s1, hdone, ⟨-, hend⟩ | ⟨-, hend⟩⟩ | ⟨-, rfl⟩ := finishLoad_next ht
  · exact (InvAfter.keeps (hbase s1 ∘ hr d s1 hdone) (writePc_keepsInv ..)).next t hend
  · have hregs := (State.setReg_only _ rd d).ready ∘ hbase s1 ∘ hr d s1 hdone
    exact (InvAfter.keeps hregs (advance_keepsInv _)).next t hend
  · exact (InvAfter.keeps (hbase s) (enterException_keepsInv ..)).next _ rfl

theorem finishStore_keepsInv {r : MemResult Unit} {s : State} (hr : ∀ t, r = .done () t → s.Ready → t.Ready)
    (x : Indexed) (rn : Reg) : Keeps InvAfter s (finishStore r x rn s) := by
  have hbase := fun s1 : State => (s1.writeBase_only rn x).ready
  refine ⟨fun t ht => ?_⟩
  obtain ⟨s1, hdone, hend⟩ | ⟨-, rfl⟩ := finishStore_next ht
  · exact (InvAfter.keeps (hbase s1 ∘ hr s1 hdone) (advance_keepsInv _)).next t hend
  · exact (InvAfter.keeps (hbase s) (enterException_keepsInv ..)).next _ rfl

theorem swap_keepsInv (k : LoadKind) (z : Size) (a v : Word) (priv : Bool) (rd : Reg) (s : State) :
    Keeps InvAfter s (swap rd (k.load a priv) (storeOf z a v priv) s) := by
  refine ⟨fun t ht => ?_⟩
  obtain ⟨d, s1, s2, hload, hstore, hend⟩ | ⟨-, rfl⟩ := swap_next ht
  · have hdone : s.Ready → (s2.setReg rd d).Ready :=
      (s2.setReg_only rd d).ready ∘ storeOf_ready hstore ∘ LoadKind.load_ready hload
    exact (InvAfter.keeps hdone (advance_keepsInv _)).next t hend
  · exact (enterException_keepsInv ..).next _ rfl

/-! ### Block transfers -/

theorem abortedLoadBlock_keepsInv (w : Bool) (rn : Reg) (base newBase : Word) (s : State) :
    Keeps InvAfter s (abortedLoadBlock w rn base newBase s) :=
  InvAfter.keeps (s.setReg_only ..).ready (dataAbort_keepsInv _)

theorem pcOrAdvance_keepsInv {write : Word → State → Outcome} (hwrite : ∀ x s, Keeps InvAfter s (write x s))
    (target : Option Word) (s : State) : Keeps InvAfter s (pcOrAdvance write target s) := by
  cases target with
  | none => exact advance_keepsInv s
  | some x => exact hwrite x s

/-- An LDM changes registers only before its end, so the invariant after it rests on its two ends. -/
theorem finishLoadBlock_keepsInv {put : State → Reg → Word → State} (hput : ∀ s i v, RegsOnly s (put s i v))
    {s s0 : State} (h0 : RegsOnly s s0) {finish : Option Word → State → Outcome} {abort : State → Outcome}
    (hfinish : ∀ x s1, RegsOnly s s1 → Keeps InvAfter s (finish x s1))
    (habort : ∀ s1, Keeps InvAfter s1 (abort s1)) (regs : List Reg) (a : Word) (target : Option Word) :
    Keeps InvAfter s (finishLoadBlock finish abort (loadBlock put regs a target s0)) := by
  obtain ⟨hdone, haborted⟩ := loadBlock_only hput regs a target s0
  unfold finishLoadBlock
  split
  · next hrun => exact hfinish _ _ (h0.trans (hdone _ _ hrun))
  · next hrun => exact InvAfter.keeps (h0.trans (haborted _ hrun)).ready (habort _)
  · exact keeps_fault ..
  · exact keeps_refused ..

theorem loadMultiple_keepsInv (f : BlockForm) (s : State) :
    Keeps InvAfter s (loadMultiple f.p f.u f.w f.rn f.list s) := by
  rw [loadMultiple_eq]
  exact (finishLoadBlock_keepsInv State.setReg_only (s.withNewBase_only ..)
    (fun x s1 h => InvAfter.keeps h.ready (pcOrAdvance_keepsInv writePc_keepsInv x s1))
    (abortedLoadBlock_keepsInv _ _ _ _) ..).blockChecked ..

theorem execLdmRestore_keepsInv (f : BlockForm) (s : State) :
    Keeps InvAfter s (execLdmRestore f.cond f.p f.u f.w f.rn f.list s) := by
  have hrun : Keeps InvAfter s (finishLoadBlock (pcOrAdvance exceptionReturn) (f.abortedLoad s) (f.loads s)) :=
    finishLoadBlock_keepsInv State.setReg_only (s.withNewBase_only ..)
      (fun x s1 h => InvAfter.keeps h.ready (pcOrAdvance_keepsInv exceptionReturn_keepsInv x s1))
      (abortedLoadBlock_keepsInv _ _ _ _) ..
  rw [execLdmRestore_eq]
  exact (((hrun.blockChecked ..).refuseIf ..).refuseIf ..).conditionally (advance_keepsInv s) _

/-- A user-bank LDM leaves the hazard pending only in a mode with an SPSR (70_reset_and_hazards.md R621). -/
theorem execLdmUser_keepsInv (f : BlockForm) (s : State) :
    Keeps InvAfter s (execLdmUser f.cond f.p f.u f.w f.rn f.list s) := by
  have hpending : ∀ (_ : Option Word) (s1 : State), RegsOnly s s1 →
      Keeps InvAfter s (advance { s1 with bankHazard := s.hasBank }) := fun _ s1 h =>
    ⟨fun _ ht hs => advance_inv ((h.ready hs).inv_setBankHazard (h.hasBank.trans ·)) (h.ready hs).arm ht⟩
  rw [execLdmUser_eq]
  exact ((((finishLoadBlock_keepsInv State.setUserReg_only .rfl hpending (abortedLoadBlock_keepsInv _ _ _ _)
    ..).blockChecked ..).refuseIf ..).refuseIf ..).conditionally (advance_keepsInv s) _

theorem storeBlock_ready {vs : List Word} {a : Word} {ab x : Bool} {s t : State}
    (h : storeBlock vs a ab s = .done x t) : s.Ready → t.Ready :=
  (storeBlock_core _ _ _ _ _ _ h).1.ready (storeBlock_core _ _ _ _ _ _ h).2

theorem storeMultiple_keepsInv (p u w : Bool) (rn : Reg) (list : BitVec 16) (s : State) :
    Keeps InvAfter s (storeMultiple p u w rn list s) := by
  have hbase := fun (s1 : State) (b : Word) => (s1.withNewBase_only w rn b).ready
  refine Keeps.blockChecked ?_ rn list
  split
  case h_1 hrun => exact InvAfter.keeps (hbase _ _ ∘ storeBlock_ready hrun) (advance_keepsInv _)
  case h_2 hrun => exact InvAfter.keeps (hbase _ _ ∘ storeBlock_ready hrun) (dataAbort_keepsInv _)
  case h_3 => exact keeps_fault ..
  case h_4 => exact keeps_refused ..

theorem execStmUser_keepsInv (c : Cond) (p u w : Bool) (rn : Reg) (list : BitVec 16) (s : State) :
    Keeps InvAfter s (execStmUser c p u w rn list s) := by
  refine ((Keeps.blockChecked ?_ rn list).refuseIf _ _).refuseIf _ _ |>.conditionally (advance_keepsInv s) c
  split
  case h_1 hrun => exact InvAfter.keeps (storeBlock_ready hrun) (advance_keepsInv _)
  case h_2 hrun => exact InvAfter.keeps (storeBlock_ready hrun) (dataAbort_keepsInv _)
  case h_3 => exact keeps_fault ..
  case h_4 => exact keeps_refused ..

/-! ### Every instruction, and the step -/

/-- A branch target is a multiple of four because the PC and the offset are. -/
theorem State.Ready.target_aligned {s : State} (hs : s.Ready) (off : BitVec 24) :
    wordAligned (s.pc + 8#32 + branchOffset off) = true :=
  wordAligned_add (wordAligned_add hs.pc_aligned rfl) (wordAligned_branchOffset off)

/-- An instruction run in a ready state reaches the invariant, by the class of the instruction. -/
theorem exec_keepsInv (i : Instr) (s : State) : Keeps InvAfter s (exec i s) := by
  have hadvance := advance_keepsInv s
  cases instrClass s i with
  | result h =>
    rw [exec_resultForm_eq h]
    exact ((writeResult_keepsInv ..).unlessBroken _).conditionally hadvance _
  | test h =>
    rw [exec_testForm_eq h]
    exact ((InvAfter.keeps (·.setAluFlags _) (advance_keepsInv _)).unlessBroken _).conditionally hadvance _
  | mul h =>
    rw [exec_mulForm_eq h]
    exact ((writeProduct_keepsInv ..).unlessBroken _).conditionally hadvance _
  | long h =>
    rw [exec_longForm_eq h]
    exact ((writeLongProduct_keepsInv ..).unlessBroken _).conditionally hadvance _
  | load h =>
    rw [exec_loadForm_eq h]
    exact ((finishLoad_keepsInv (fun _ _ => LoadKind.load_ready) ..).unlessBroken _).conditionally hadvance _
  | store h =>
    rw [exec_storeForm_eq h]
    exact ((finishStore_keepsInv (fun _ => storeOf_ready) _ _).unlessBroken _).conditionally hadvance _
  | ldm h =>
    rw [exec_ldmForm_eq h]
    exact (loadMultiple_keepsInv ..).conditionally hadvance _
  | stm h =>
    rw [exec_stmForm_eq h]
    exact (storeMultiple_keepsInv ..).conditionally hadvance _
  | ldmRestore c p u w rn list => exact execLdmRestore_keepsInv ⟨c, p, u, w, rn, list⟩ s
  | ldmUser c p u w rn list => exact execLdmUser_keepsInv ⟨c, p, u, w, rn, list⟩ s
  | stmUser => exact execStmUser_keepsInv ..
  | swp c rn rd rm => exact (((swap_keepsInv .word .word ..).refuseIf _ _).refuseIf _ _).conditionally hadvance c
  | swpb c rn rd rm => exact ((swap_keepsInv .byte .byte ..).refuseIf _ _).conditionally hadvance c
  | branchExchange c rn => exact ((writePc_setCpsr_keepsInv ..).refuseIf _ _).conditionally hadvance c
  | branch c off => exact (keeps_next fun hs => (hs.setPc (hs.target_aligned off)).inv).conditionally hadvance c
  | branchLink c off =>
    exact (keeps_next fun hs => (((s.setReg_only ..).ready hs).setPc (hs.target_aligned off)).inv).conditionally
      hadvance c
  | mrs c ps rd =>
    refine Keeps.conditionally (Keeps.refuseIf ?_ _ _) hadvance c
    split
    · exact keeps_refused ..
    · exact InvAfter.keeps ((State.setReg_only ..).ready ·.drawn) (advance_keepsInv _)
  | msrReg c pd rm =>
    refine Keeps.conditionally (Keeps.refuseIf ?_ _ _) hadvance c
    split
    · exact changeSpsr_keepsInv ..
    · exact writeWholeCpsr_keepsInv ..
  | msrFlagsReg c pd rm => exact ((writePsrFlags_keepsInv ..).refuseIf _ _).conditionally hadvance c
  | msrFlagsImm c pd o => exact (writePsrFlags_keepsInv ..).conditionally hadvance c
  | trap h =>
    rw [exec_trapForm_eq h]
    exact (enterException_keepsInv ..).conditionally hadvance _
  | swi c comment => exact (enterException_keepsInv ..).conditionally hadvance c

/-- A reset taken during a run starts at address 0 in ARM state (60_exceptions.md R512). -/
theorem resetEntry_inv (pins : Pins) {s : State} (hm : s.mem.wf = true) : (resetEntry pins s).Inv where
  mem_wf := by simpa only [resetEntry] using hm
  pc_arm _ := ExceptionKind.reset.vector_aligned
  pc_thumb ht := absurd (show false = true from ht) (by decide)
  hazard_bank hb := absurd (show false = true from hb) (by decide)

/-- What comes before an instruction answers a next state only by a reset or an interrupt (60_exceptions.md R527). -/
theorem preempt_next {b : Boundary} {s t : State} (h : preempt b s = some (.next t)) :
    (∃ pins, t = resetEntry pins s) ∨ (∃ k, t = enterException k (s.pc + 4#32) s) := by
  unfold preempt interrupt at h
  split at h
  · exact .inl ⟨_, (Host.Outcome.next.inj (Option.some.inj h)).symm⟩
  split at h
  · cases h
  split at h
  · cases h
  split at h
  · exact .inr ⟨.fiq, (Host.Outcome.next.inj (Option.some.inj h)).symm⟩
  split at h
  · exact .inr ⟨.irq, (Host.Outcome.next.inj (Option.some.inj h)).symm⟩
  · cases h

/-- An instruction is fetched in ARM state only. -/
theorem preempt_none {b : Boundary} {s : State} (h : preempt b s = none) : s.cpsr.t = false := by
  unfold preempt at h
  split at h
  · cases h
  split at h
  · cases h
  split at h
  · cases h
  · next ht => exact Bool.eq_false_iff.mpr ht

theorem fetchWord_aligned {s : State} {w : Word} (h : fetchWord s = .word w) : wordAligned s.pc = true := by
  unfold fetchWord at h
  split at h
  · cases h
  · next ha => simpa using ha

/-- A fetched word that answers a next state was an instruction, run with the hazard discharged. -/
theorem runWord_next {w : Word} {s t : State} (h : runWord w s = .next t) :
    ∃ i, exec i { s with bankHazard := false } = .next t := by
  unfold runWord runInstr at h
  split at h
  · cases h
  · next i _ =>
    split at h
    · cases h
    · exact ⟨i, h⟩

/-- A fetch in ARM state ends in a prefetch abort or in an instruction run in a ready state. -/
theorem runFetched_inv {s t : State} (hm : s.mem.wf = true) (ht : s.cpsr.t = false) (h : runFetched s = .next t) :
    t.Inv := by
  unfold runFetched at h
  split at h
  · cases h; exact enterException_inv _ _ hm
  · cases h
  · cases h
  · next w hw =>
    obtain ⟨i, hexec⟩ := runWord_next h
    exact (exec_keepsInv i _).next t hexec ⟨hm, ht, fetchWord_aligned hw, rfl⟩

/-! ### The obligations -/

/-- Settles O7: a reset and an exception reach the invariant by themselves, an instruction because it runs in a ready
state. -/
theorem stepKeepsTheInvariant : Obligations.StepKeepsTheInvariant := by
  intro s t hs h
  have hm : s.nextBoundary.mem.wf = true := hs.mem_wf
  unfold step runStep at h
  split at h
  · next o hpre =>
    subst h
    obtain ⟨pins, rfl⟩ | ⟨k, rfl⟩ := preempt_next hpre
    · exact resetEntry_inv pins hm
    · exact enterException_inv k _ hm
  · next hpre => exact runFetched_inv hm (preempt_none hpre) h

/-- Settles O28: B writes the PC only, BL the link register before it. -/
theorem branchesReachTheirTarget : Obligations.BranchesReachTheirTarget := by
  intro c off s hc
  have hlink := s.setReg_written 14#4 (s.pc + 4#32)
  have hpc := fun s1 : State => s1.setPc_written (s.pc + 8#32 + branchOffset off)
  have hboth := hlink.trans (hpc _)
  refine ⟨⟨_, conditionally_pass hc, branchTarget_eq_ofInt s.pc off, rfl, (hpc s).toUnchanged, fun _ => rfl⟩,
    ⟨_, conditionally_pass hc, branchTarget_eq_ofInt s.pc off, ?_, hboth.cpsr, hboth.toUnchanged,
      memoryKept_of_eq hboth.mem⟩⟩
  exact (s.setReg_holds (by decide) _).kept (hpc _) List.not_mem_nil

/-- Settles O29: BX is a write of the PC in the state that bit 0 of the register selects. -/
theorem branchAndExchange : Obligations.BranchAndExchange := by
  intro c rn s hc
  have hexec : rn ≠ 15#4 → exec (.bx c rn) s =
      writePc (s.readReg 8#32 rn) { s with cpsr := { s.cpsr with t := (s.readReg 8#32 rn).getLsbD 0 } } := fun hn =>
    (conditionally_pass hc).trans (by simp [refuseIf, hn])
  refine ⟨?_, fun hn h0 => ?_, fun hn h0 h1 => ?_, fun hn h0 h1 => ?_⟩
  · rintro rfl
    exact conditionally_pass hc
  · simp only [hexec hn, h0, writePc, if_true]
  · simp only [hexec hn, h0]
    exact writePc_arm rfl (wordAligned_iff.mpr ⟨h0, h1⟩)
  · have hunaligned : wordAligned (s.readReg 8#32 rn) = false :=
      Bool.eq_false_iff.mpr fun ha => absurd (h1.symm.trans (wordAligned_iff.mp ha).2) (by decide)
    simp only [hexec hn, h0, writePc, hunaligned, Bool.false_eq_true, if_false]

/-- Settles O5: each word is the encoding of its instruction. -/
theorem exampleWordsDecode : Obligations.ExampleWordsDecode :=
  ⟨decode_of_encode rfl rfl, decode_of_encode rfl rfl, decode_of_encode rfl rfl, decode_of_encode rfl rfl,
    decode_of_encode rfl rfl, decode_of_encode rfl rfl, decode_of_encode rfl rfl, decode_of_encode rfl rfl,
    decode_of_encode rfl rfl, decode_of_encode rfl rfl, decode_of_encode rfl rfl, decode_of_encode rfl rfl⟩

end Sys2Proof.Machine

/-! SUPPORT. The barrel shifter and the ALU (41_data_processing.md R242 to R250, R255 to R259, R270 to R285): what O19, O20,
O23 and O24 rest on. -/

namespace Sys2Proof.Machine

/-! ### The amount of a shift (41_data_processing.md R242 to R250) -/

theorem shiftBy_zero (k : ShiftKind) (m : Word) (c : Bool) : shiftBy k 0 m c = ⟨m, c⟩ := by
  cases k <;> rfl

/-- Any amount field but 0 is taken as it is. -/
theorem shiftByField_of_ne_zero (k : ShiftKind) {amount : BitVec 5} (h : amount ≠ 0#5) (m : Word) (c : Bool) :
    shiftByField k amount m c = shiftBy k amount.toNat m c :=
  if_neg h

theorem shiftBy_lsl {n : Nat} (h0 : n ≠ 0) (h32 : n ≤ 32) (m : Word) (c : Bool) :
    shiftBy .lsl n m c = ⟨m <<< n, m.getLsbD (32 - n)⟩ := by
  simp only [shiftBy, shiftLeft, h0, h32, if_true, if_false]

theorem shiftBy_lsr {n : Nat} (h0 : n ≠ 0) (h32 : n ≤ 32) (m : Word) (c : Bool) :
    shiftBy .lsr n m c = ⟨m >>> n, m.getLsbD (n - 1)⟩ := by
  simp only [shiftBy, shiftRightLogical, h0, h32, if_true, if_false]

theorem shiftBy_asr {n : Nat} (h0 : n ≠ 0) (h32 : n < 32) (m : Word) (c : Bool) :
    shiftBy .asr n m c = ⟨m.sshiftRight n, m.getLsbD (n - 1)⟩ := by
  simp only [shiftBy, shiftRightArith, h0, h32, if_true, if_false]

theorem shiftBy_ror {n : Nat} (h0 : n ≠ 0) (m : Word) (c : Bool) :
    shiftBy .ror n m c = ⟨m.rotateRight (n % 32), m.getLsbD ((n - 1) % 32)⟩ := by
  simp only [shiftBy, rotateRightBy, h0, if_false]

/-- A logical shift left by 32 or more leaves no bit; by 32 exactly, bit 0 is the last one shifted out (R250). -/
theorem shiftBy_lsl_of_ge {n : Nat} (h : 32 ≤ n) (m : Word) (c : Bool) :
    shiftBy .lsl n m c = ⟨0#32, if n = 32 then m.getLsbD 0 else false⟩ := by
  by_cases h32 : n = 32
  · subst h32
    rw [shiftBy_lsl (by decide) (by decide), BitVec.shiftLeft_eq_zero (by decide)]
    rfl
  · simp only [shiftBy, shiftLeft, h32, show n ≠ 0 by omega, show ¬ n ≤ 32 by omega, if_false]

/-- A logical shift right by 32 or more leaves no bit; by 32 exactly, bit 31 is the last one shifted out (R250). -/
theorem shiftBy_lsr_of_ge {n : Nat} (h : 32 ≤ n) (m : Word) (c : Bool) :
    shiftBy .lsr n m c = ⟨0#32, if n = 32 then m.getLsbD 31 else false⟩ := by
  by_cases h32 : n = 32
  · subst h32
    rw [shiftBy_lsr (by decide) (by decide), BitVec.ushiftRight_eq_zero (by decide)]
    rfl
  · simp only [shiftBy, shiftRightLogical, h32, show n ≠ 0 by omega, show ¬ n ≤ 32 by omega, if_false]

/-- An arithmetic shift right by 32 or more leaves the sign bit everywhere (R250). -/
theorem shiftBy_asr_of_ge {n : Nat} (h : 32 ≤ n) (m : Word) (c : Bool) :
    shiftBy .asr n m c = ⟨if m.getLsbD 31 then 0xFFFFFFFF#32 else 0#32, m.getLsbD 31⟩ := by
  simp only [shiftBy, shiftRightArith, show n ≠ 0 by omega, show ¬ n < 32 by omega, if_false,
    BitVec.msb_eq_getLsbD_last]

/-- Rotating by amounts that agree modulo 32 is the same, none of them being 0 (R250). -/
theorem shiftBy_ror_congr {n k : Nat} (hn : n ≠ 0) (hk : k ≠ 0) (h : n % 32 = k % 32) (m : Word) (c : Bool) :
    shiftBy .ror n m c = shiftBy .ror k m c := by
  rw [shiftBy_ror hn, shiftBy_ror hk, h, show (n - 1) % 32 = (k - 1) % 32 by omega]

/-- Rotating once around leaves the operand, with bit 31 as the carry (R250). -/
theorem shiftBy_ror_32 (m : Word) (c : Bool) : shiftBy .ror 32 m c = ⟨m, m.getLsbD 31⟩ := by
  have hround : m.rotateRight 0 = m := BitVec.eq_of_getLsbD_eq fun i hi => by
    rw [getLsbD_rotateRight_mod m (by decide) hi, Nat.add_zero, Nat.mod_eq_of_lt hi]
  rw [shiftBy_ror (by decide), show 32 % 32 = 0 from rfl, hround]

/-! ### The bits of a shift -/

theorem getLsbD_sshiftRight_word (m : Word) (n : Nat) {i : Nat} (hi : i < 32) :
    (m.sshiftRight n).getLsbD i = if i + n < 32 then m.getLsbD (i + n) else m.getLsbD 31 := by
  rw [BitVec.getLsbD_sshiftRight, BitVec.msb_eq_getLsbD_last, Nat.add_comm n i]
  simp only [Nat.not_le.mpr hi, decide_false, Bool.not_false, Bool.true_and]

/-- RRX shifts the old carry in at the top (R247). -/
theorem getLsbD_rotateRightExtended (m : Word) (c : Bool) {i : Nat} (hi : i < 32) :
    (rotateRightExtended m c).val.getLsbD i = if i = 31 then c else m.getLsbD (i + 1) := by
  rw [rotateRightExtended, BitVec.getLsbD_append]
  by_cases htop : i = 31
  · subst htop
    simp
  · have hlow : i < 31 := by omega
    simp only [hlow, htop, if_true, if_false, BitVec.getLsbD_extractLsb', decide_true, Bool.true_and, Nat.add_comm 1 i]

/-! ### AddWithCarry (41_data_processing.md R255) -/

/-- Bit 31 of a word says that its value is in the upper half. -/
theorem getLsbD_31_iff (a : Word) : a.getLsbD 31 = true ↔ 2 ^ 31 ≤ a.toNat := by
  have h := BitVec.msb_eq_decide a
  rw [BitVec.msb_eq_getLsbD_last] at h
  simp only [Nat.reduceSub] at h
  rw [h, decide_eq_true_iff]

theorem getLsbD_31_eq_iff (a b : Word) :
    a.getLsbD 31 = b.getLsbD 31 ↔ (2 ^ 31 ≤ a.toNat ↔ 2 ^ 31 ≤ b.toNat) := by
  rw [Bool.eq_iff_iff, getLsbD_31_iff, getLsbD_31_iff]

/-- The signed value of a word is its unsigned value, less 2^32 in the upper half. -/
theorem toInt_eq_ite (a : Word) : a.toInt = (a.toNat : Int) - if 2 ^ 31 ≤ a.toNat then 2 ^ 32 else 0 := by
  rw [BitVec.toInt_eq_toNat_cond]
  split <;> split <;> omega

theorem toInt_not_word (a : Word) : (~~~a).toInt = -a.toInt - 1 := by
  have := a.isLt
  rw [toInt_eq_ite, toInt_eq_ite, BitVec.toNat_not]
  split <;> split <;> omega

theorem addValue_toNat (a b : Word) (cin : Bool) :
    (addValue a b cin).toNat = (a.toNat + b.toNat + cin.toNat) % 2 ^ 32 :=
  BitVec.toNat_ofNat ..

theorem addCarry_iff (a b : Word) (cin : Bool) :
    addCarry a b cin = true ↔ 2 ^ 32 ≤ a.toNat + b.toNat + cin.toNat :=
  decide_eq_true_iff

theorem addOverflow_iff (a b : Word) (cin : Bool) :
    addOverflow a b cin = true ↔
      (a.toInt + b.toInt + cin.toNat < -2 ^ 31 ∨ 2 ^ 31 ≤ a.toInt + b.toInt + cin.toNat) := by
  simp only [addOverflow, Bool.or_eq_true, decide_eq_true_iff]
  omega

/-- The sign rule: a sum overflows if its operands agree in sign and it does not agree with them. -/
theorem addOverflow_iff_signs (a b : Word) (cin : Bool) :
    addOverflow a b cin = true ↔
      a.getLsbD 31 = b.getLsbD 31 ∧ (addValue a b cin).getLsbD 31 ≠ a.getLsbD 31 := by
  have ha := a.isLt
  have hb := b.isLt
  have hcin := cin.toNat_le
  have hsum := addValue_toNat a b cin
  rw [addOverflow_iff, toInt_eq_ite, toInt_eq_ite, ne_eq, getLsbD_31_eq_iff, getLsbD_31_eq_iff, hsum]
  split <;> split <;> omega

/-! ### Subtraction as the addition of the complement (41_data_processing.md R259) -/

/-- The carry of `a + NOT b + cin` says that there is no borrow. -/
theorem addCarry_not (a b : Word) (cin : Bool) :
    addCarry a (~~~b) cin = true ↔ b.toNat + (!cin).toNat ≤ a.toNat := by
  have hb := b.isLt
  rw [addCarry_iff, BitVec.toNat_not]
  cases cin <;> simp <;> omega

/-- Its overflow says that the signed difference, less the borrow, is out of range. -/
theorem addOverflow_not (a b : Word) (cin : Bool) :
    addOverflow a (~~~b) cin = true ↔
      (a.toInt - b.toInt - (!cin).toNat < -2 ^ 31 ∨ 2 ^ 31 ≤ a.toInt - b.toInt - (!cin).toNat) := by
  rw [addOverflow_iff, toInt_not_word]
  cases cin <;> simp <;> omega

theorem addOverflow_not_true (a b : Word) :
    addOverflow a (~~~b) true = true ↔ (a.toInt - b.toInt < -2 ^ 31 ∨ 2 ^ 31 ≤ a.toInt - b.toInt) := by
  simpa using addOverflow_not a b true

/-- Its value is the difference, less the borrow. -/
theorem addValue_not (a b : Word) (cin : Bool) :
    addValue a (~~~b) cin = a - b + (if cin then 1#32 else 0#32) - 1#32 := by
  apply BitVec.eq_of_toNat_eq
  rw [addValue_toNat]
  cases cin <;> simp only [Bool.false_eq_true, if_true, if_false, Bool.toNat_true, Bool.toNat_false] <;> bv_omega

theorem addValue_not_true (a b : Word) : addValue a (~~~b) true = a - b := by
  rw [addValue_not]
  exact BitVec.add_sub_cancel ..

/-! ### The classes of operations (41_data_processing.md R258, R259) -/

/-- The arithmetic operations give what some AddWithCarry gives. -/
theorem alu_arithmetic {op : Opcode} (h : op = .sub ∨ op = .cmp ∨ op = .rsb ∨ op = .add ∨ op = .cmn ∨ op = .adc ∨
    op = .sbc ∨ op = .rsc) (a : Word) (x : Shifted) (p : PSR) : ∃ b b' cin, alu op a x p = addWithCarry b b' cin := by
  obtain rfl | rfl | rfl | rfl | rfl | rfl | rfl | rfl := h <;> exact ⟨_, _, _, rfl⟩

/-- The logical operations give some word with the flags of their class. -/
theorem alu_logical {op : Opcode} (h : op = .and ∨ op = .eor ∨ op = .tst ∨ op = .teq ∨ op = .orr ∨ op = .mov ∨
    op = .bic ∨ op = .mvn) (a : Word) (x : Shifted) (p : PSR) : ∃ r, alu op a x p = logicalResult r x.carry p.v := by
  obtain rfl | rfl | rfl | rfl | rfl | rfl | rfl | rfl := h <;> exact ⟨_, rfl⟩

/-- N and Z of AddWithCarry are those of its value. -/
theorem addWithCarry_n_z (a b : Word) (cin : Bool) :
    (addWithCarry a b cin).n = (addWithCarry a b cin).val.getLsbD 31 ∧
      ((addWithCarry a b cin).z = true ↔ (addWithCarry a b cin).val = 0#32) :=
  ⟨BitVec.msb_eq_getLsbD_last (addValue a b cin), beq_iff_eq⟩

/-! ### The obligations -/

/-- Settles O19: an amount of 1 to 31 is the plain shift, whose bits are known; amount 0 stands for a shift of 0 or 32, or
for RRX. -/
theorem shiftByInstructionAmount : Obligations.ShiftByInstructionAmount := by
  intro amount m c
  refine ⟨fun hne => ?plain, shiftBy_zero .lsl m c, shiftBy_lsr_of_ge (Nat.le_refl 32) m c,
    shiftBy_asr_of_ge (Nat.le_refl 32) m c, fun i hi => getLsbD_rotateRightExtended m c hi, rfl⟩
  have h32 : amount.toNat < 32 := amount.isLt
  have h0 : amount.toNat ≠ 0 := fun h => hne (BitVec.eq_of_toNat_eq h)
  simp only [shiftByField_of_ne_zero _ hne, shiftBy_lsl h0 h32.le, shiftBy_lsr h0 h32.le, shiftBy_asr h0 h32,
    shiftBy_ror h0]
  refine ⟨fun i hi => ?lsl, trivial, fun i hi => ?lsr, trivial, fun i hi => getLsbD_sshiftRight_word m _ hi, trivial,
    fun i hi => ?ror, congrArg m.getLsbD (Nat.mod_eq_of_lt (by omega))⟩
  case lsl => simp only [BitVec.getLsbD_shiftLeft, hi, ← decide_not, Nat.not_lt, decide_true, Bool.true_and]
  case lsr => rw [BitVec.getLsbD_ushiftRight, Nat.add_comm]
  case ror => rw [Nat.mod_eq_of_lt h32, getLsbD_rotateRight_mod m h32 hi]

/-- Settles O20: from 32 on nothing but the sign is left of a shift, and a rotation only counts modulo 32. -/
theorem shiftByRegisterAmount : Obligations.ShiftByRegisterAmount := by
  intro m c
  refine ⟨fun k => shiftBy_zero k m c, fun k amount hne => (shiftByField_of_ne_zero k hne m c).symm, fun n h32 _ =>
    ⟨shiftBy_lsl_of_ge h32 m c, shiftBy_lsr_of_ge h32 m c, shiftBy_asr_of_ge h32 m c, fun k hk => ?_⟩⟩
  rw [shiftBy_ror_congr (k := k) (by omega) (by omega) (by omega)]
  split
  · next hround => rw [hround, shiftBy_ror_32]
  · rfl

/-- Settles O23: the clauses of AddWithCarry, and each subtraction as the addition of the complement. -/
theorem arithmeticOperations : Obligations.ArithmeticOperations := by
  refine ⟨fun a b cin => ⟨addValue_toNat a b cin, addCarry_iff a b cin, addOverflow_iff a b cin,
    addOverflow_iff_signs a b cin, addWithCarry_n_z a b cin⟩, fun a x p => ⟨fun op hop => ?nz, rfl, rfl, rfl, rfl,
    addValue_not_true a x.val, rfl, addValue_not_true x.val a, rfl, rfl, rfl, addValue_not a x.val p.c,
    addValue_not x.val a p.c, addCarry_not a x.val true, addCarry_not x.val a true, addCarry_not a x.val p.c,
    addCarry_not x.val a p.c, ?subV, ?rsbV, addOverflow_not a x.val p.c, addOverflow_not x.val a p.c⟩⟩
  case nz =>
    obtain ⟨b, b', cin, halu⟩ := alu_arithmetic hop a x p
    rw [halu]
    exact addWithCarry_n_z b b' cin
  case subV => exact addOverflow_not_true a x.val
  case rsbV => exact addOverflow_not_true x.val a

/-- Settles O24: the flags are those of the class, the bits those of each operation. -/
theorem logicalOperations : Obligations.LogicalOperations := by
  intro op a x p hop
  refine ⟨fun i hi => ?bits, ?flags⟩
  case flags =>
    obtain ⟨r, halu⟩ := alu_logical hop a x p
    rw [halu]
    exact ⟨BitVec.msb_eq_getLsbD_last r, beq_iff_eq, rfl, rfl⟩
  case bits =>
    obtain rfl | rfl | rfl | rfl | rfl | rfl | rfl | rfl := hop <;> simp [alu, logicalResult, hi]

end Sys2Proof.Machine

/-! SUPPORT. How data processing ends, and the refusals of the forms that break an operand restriction (41_data_processing.md
R248, R252, R258 to R265, and the restrictions of the other classes): what O15, O22, O25, O26, O27 and O39 rest on. -/

namespace Sys2Proof.Machine

/-! ### R15 as an operand (41_data_processing.md R252) -/

/-- How far R15 reads ahead does not matter to any other register. -/
theorem State.readReg_ahead (s : State) {i : Reg} (hi : i ≠ 15#4) (k k' : Word) : s.readReg k i = s.readReg k' i := by
  obtain ⟨p, hp⟩ := bank_isSome s.cpsr.m hi
  rw [State.readReg_eq hp, State.readReg_eq hp]

/-! ### Writes of the PC and exception returns (40_branch.md R221, 60_exceptions.md R520) -/

theorem writePc_unaligned {x : Word} {s : State} (ht : s.cpsr.t = false) (ha : wordAligned x = false) :
    writePc x s = .refused .unalignedPc := by
  simp only [writePc, ht, ha, Bool.false_eq_true, if_false]

theorem writePc_thumb {x : Word} {s : State} (ht : s.cpsr.t = true) :
    writePc x s = .next { s with pc := x &&& 0xFFFFFFFE#32 } := by
  simp only [writePc, ht, if_true]

theorem exceptionReturn_of_spsr {s : State} {p : PSR} (h : s.spsr = some p) (x : Word) :
    exceptionReturn x s = writePc x { s with cpsr := p } := by
  simp only [exceptionReturn, h]

theorem exceptionReturn_of_no_spsr {s : State} (h : s.spsr = none) (x : Word) :
    exceptionReturn x s = .refused .noSpsr := by
  simp only [exceptionReturn, h]

/-! ### The ends of data processing (41_data_processing.md R260 to R262, R264) -/

theorem writeResult_restore (r : AluResult) (s : State) : writeResult true 15#4 r s = exceptionReturn r.val s := rfl

theorem writeResult_pc (r : AluResult) (s : State) : writeResult false 15#4 r s = writePc r.val s := rfl

theorem setReg_setAluFlags (s : State) (rd : Reg) (v : Word) (r : AluResult) :
    (s.setReg rd v).setAluFlags r = (s.setAluFlags r).setReg rd v := by
  have hbank : bank (s.setAluFlags r).cpsr.m rd = bank s.cpsr.m rd := rfl
  unfold State.setReg
  rw [hbank]
  split <;> rfl

/-- The state in which a result-writing operation writes Rd: with S the flags are set. -/
def State.withAluFlags (s : State) (sf : Bool) (r : AluResult) : State :=
  if sf then s.setAluFlags r else s

section
variable (s : State) (sf : Bool) (r : AluResult)

@[simp] theorem State.withAluFlags_pc : (s.withAluFlags sf r).pc = s.pc := by cases sf <;> rfl
@[simp] theorem State.withAluFlags_mem : (s.withAluFlags sf r).mem = s.mem := by cases sf <;> rfl
@[simp] theorem State.withAluFlags_bankHazard : (s.withAluFlags sf r).bankHazard = s.bankHazard := by cases sf <;> rfl
@[simp] theorem State.withAluFlags_draws : (s.withAluFlags sf r).draws = s.draws := by cases sf <;> rfl
@[simp] theorem State.withAluFlags_cpsr_m : (s.withAluFlags sf r).cpsr.m = s.cpsr.m := by cases sf <;> rfl

theorem State.withAluFlags_cpsr :
    (s.withAluFlags sf r).cpsr =
      if sf then { s.cpsr with n := r.n, z := r.z, c := r.c, v := r.v } else s.cpsr := by
  cases sf <;> rfl

end

theorem writeResult_register (sf : Bool) {rd : Reg} (hd : rd ≠ 15#4) (r : AluResult) (s : State) :
    writeResult sf rd r s = advance ((s.withAluFlags sf r).setReg rd r.val) := by
  cases sf with
  | false => exact if_neg hd
  | true => rw [State.withAluFlags, if_pos rfl, ← setReg_setAluFlags]; exact if_neg hd

/-- Setting the flags first changes nothing that `Unchanged` speaks of. -/
theorem RegsWritten.unchanged_withAluFlags {s t : State} {sf : Bool} {r : AluResult} {w : List (Option PhysReg)}
    (h : RegsWritten (s.withAluFlags sf r) t w) : Unchanged s t w := by
  cases sf with
  | false => exact h.toUnchanged
  | true => exact ⟨h.regs, h.spsrFiq, h.spsrIrq, h.spsrSvc, h.spsrAbt, h.spsrUnd, h.bigend, h.om, h.map, h.misaligned,
      h.aborts, h.inputs, h.sfrLog⟩

/-! ### Refusals -/

theorem unlessBroken_some (r : Refusal) (body : Outcome) : unlessBroken (some r) body = .refused r := rfl

/-- A meaning whose condition passes and that breaks a restriction is refused under its name. -/
theorem conditionally_broken {c : Cond} {s : State} {broken : Option Refusal} {r : Refusal} {body : Outcome}
    (hc : condPassed c s.cpsr = true) (hb : broken = some r) :
    conditionally c s (unlessBroken broken body) = .refused r := by
  rw [conditionally_pass hc, hb, unlessBroken_some]

theorem storeOf_half_odd {a : Word} (ha : a.getLsbD 0 = true) (v : Word) (priv : Bool) (s : State) :
    storeOf .half a v priv s = .refused .strhOdd := by
  simp only [storeOf, storeHalf, ha, if_true]

theorem storeOf_word_refused {a : Word} {s : State} (ha : s.refusesUnaligned a = true) (v : Word) (priv : Bool) :
    storeOf .word a v priv s = .refused .unalignedWord := by
  simp only [storeOf, storeWord, ha, if_true]

theorem changeSpsr_refused {s : State} (h : s.spsr = none) (f : PSR → PSR) :
    changeSpsr f s = .refused .noSpsr := by
  simp only [changeSpsr, h]

/-! ### The obligations -/

/-- Settles O22. -/
theorem programCounterAsOperand : Obligations.ProgramCounterAsOperand := by
  intro s kind rs rd c sf o o2 hrs
  refine ⟨?immediate, ?register, ⟨_, rfl, s.readReg_r15 8#32⟩, ⟨_, rfl, s.readReg_r15 12#32⟩⟩
  case immediate => exact congrArg (fun m => Shifted.mk m s.cpsr.c) (s.readReg_r15 8#32)
  case register =>
    simp only [regShiftOperand, State.readReg_r15, BitVec.extractLsb'_toNat, Nat.shiftRight_zero, Nat.reducePow,
      s.readReg_ahead hrs 12#32 8#32]

/-- Settles O15: the end is an exception return, and the restored T bit decides how the PC is written. -/
theorem dataProcessingReturnsFromException : Obligations.DataProcessingReturnsFromException := by
  intro i s f hf hc hb hsf hrd
  have hexec : exec i s = exceptionReturn (alu f.op f.op1 f.op2 s.cpsr).val s := by
    rw [exec_resultForm hf hc hb, hsf, hrd, writeResult_restore]
  rw [hexec]
  refine ⟨fun p hp ht ha => ?_, fun p hp ht ha => ?_, fun p hp ht => ?_, fun hp => exceptionReturn_of_no_spsr hp _⟩
  · exact (exceptionReturn_of_spsr hp _).trans (writePc_arm ht ha)
  · exact (exceptionReturn_of_spsr hp _).trans (writePc_unaligned ht ha)
  · exact (exceptionReturn_of_spsr hp _).trans (writePc_thumb ht)

/-- Settles O26: the end is a write of the PC. -/
theorem dataProcessingWritesThePc : Obligations.DataProcessingWritesThePc := by
  intro i s f hf hc hb hrd hsf ht
  have hexec : exec i s = writePc (alu f.op f.op1 f.op2 s.cpsr).val s := by
    rw [exec_resultForm hf hc hb, hsf, hrd, writeResult_pc]
  rw [hexec]
  exact ⟨writePc_arm ht, writePc_unaligned ht⟩

/-- Settles O25: with S the flags are set, then Rd is written and the PC advances. -/
theorem dataProcessingWritesItsResult : Obligations.DataProcessingWritesItsResult := by
  intro i s f hf hc hb hrd hpc
  generalize hr : alu f.op f.op1 f.op2 s.cpsr = r
  obtain ⟨t, hend, hadv, hheld, hwritten⟩ := advance_setReg (s.withAluFlags f.sf r) hrd r.val (by simpa using hpc)
  rw [State.withAluFlags_cpsr_m] at hheld hwritten
  have hexec : exec i s = .next t := by rw [exec_resultForm hf hc hb, hr, writeResult_register f.sf hrd, hend]
  exact ⟨t, hexec, ⟨by simpa using hadv.pc, by simpa using hadv.bankHazard⟩, hheld,
    hwritten.cpsr.trans (s.withAluFlags_cpsr f.sf r), hwritten.unchanged_withAluFlags,
    memoryKept_of_eq (by simpa using hwritten.mem), by simpa using hwritten.draws⟩

/-- Settles O27: the flags are set and the PC advances. -/
theorem testsSetOnlyTheFlags : Obligations.TestsSetOnlyTheFlags := by
  intro i s f hf hc hb hpc
  rw [exec_testForm hf hc hb]
  generalize alu f.op f.op1 f.op2 s.cpsr = r
  have hpcWritten := (s.withAluFlags true r).setPc_written (s.pc + 4#32)
  exact ⟨_, advance_of_ne hpc, ⟨rfl, rfl⟩, rfl, hpcWritten.unchanged_withAluFlags, fun _ => rfl, rfl⟩

/-- Settles O39: the restrictions of a form are judged before its body; an alignment rule refuses the access, a missing SPSR
the PSR transfer. -/
theorem restrictedFormsAreRefused : Obligations.RestrictedFormsAreRefused := by
  intro i s
  refine ⟨fun f r hf hc hb => ?data, fun f r hf hc hb => ?transfer, fun f hf hc hb => ?alignment,
    fun f r hf hc hb => ?mul, fun f r hf hc hb => ?long, fun c ps hc hi => ?psrR15, fun c r o hc hs hr hi => ?noSpsr⟩
  case data =>
    obtain hf | hf := hf
    · exact (exec_resultForm_eq hf).trans (conditionally_broken hc hb)
    · exact (exec_testForm_eq hf).trans (conditionally_broken hc hb)
  case transfer =>
    obtain hf | hf := hf
    · exact (exec_loadForm_eq hf).trans (conditionally_broken hc hb)
    · exact (exec_storeForm_eq hf).trans (conditionally_broken hc hb)
  case alignment =>
    rw [exec_storeForm hf hc hb]
    refine ⟨fun hsize ha => ?_, fun hsize ha => ?_⟩
    · rw [hsize, storeOf_half_odd ha]; rfl
    · rw [hsize, storeOf_word_refused ha]; rfl
  case mul => exact (exec_mulForm_eq hf).trans (conditionally_broken hc hb)
  case long => exact (exec_longForm_eq hf).trans (conditionally_broken hc hb)
  case psrR15 => obtain rfl | rfl | rfl := hi <;> exact conditionally_pass hc
  case noSpsr =>
    have hname : (r == 15#4) = false := beq_false_of_ne hr
    obtain rfl | rfl | rfl | rfl := hi <;> refine (conditionally_pass hc).trans ?_
    · simp only [hname, refuseIf_false, sourcePsr, hs, if_true]
    · simp only [hname, refuseIf_false, changeSpsr_refused hs, if_true]
    · simp only [hname, refuseIf_false, writePsrFlags, changeSpsr_refused hs, if_true]
    · simp only [writePsrFlags, changeSpsr_refused hs, if_true]

end Sys2Proof.Machine

/-! SUPPORT. A PSR as a word, writes of one SPSR, and what MRS and MSR are once their condition passes (42_psr_transfer.md R301 to
R306): what O30, O31 and O32 rest on. -/

namespace Sys2Proof.Machine

/-! ### A PSR as a word (10_state.md R45, R50) -/

/-- Where each field of a PSR stands in its word. -/
theorem PSR.toWord_eq_iff {p : PSR} {reserved : BitVec 20} {w : Word} :
    p.toWord reserved = w ↔
      w.getLsbD 31 = p.n ∧ w.getLsbD 30 = p.z ∧ w.getLsbD 29 = p.c ∧ w.getLsbD 28 = p.v ∧
      w.extractLsb' 8 20 = reserved ∧ w.getLsbD 7 = p.i ∧ w.getLsbD 6 = p.f ∧ w.getLsbD 5 = p.t ∧
      w.extractLsb' 0 5 = p.m := by
  rw [PSR.toWord, append_eq_iff]
  simp only [extractLsb'_eq_append_iff, extractLsb'_eq_ofBool_iff, and_assoc]

/-! ### Writes of one SPSR (10_state.md R51) -/

/-- Every mode but User and System has an SPSR. -/
theorem State.spsrOf_isSome (s : State) {m : Mode} (husr : m ≠ .usr) (hsys : m ≠ .sys) : ∃ p, s.spsrOf m = some p := by
  cases m with
  | usr => exact absurd rfl husr
  | sys => exact absurd rfl hsys
  | fiq | irq | svc | abt | und => exact ⟨_, rfl⟩

/-- A mode that has an SPSR reads the written one. -/
theorem State.spsrOf_setSpsrOf_same {s : State} {m : Mode} {p : PSR} (h : s.spsrOf m = some p) (q : PSR) :
    (s.setSpsrOf m q).spsrOf m = some q := by
  cases m with
  | usr | sys => cases h
  | fiq | irq | svc | abt | und => rfl

/-- The SPSRs of the other modes read as before. -/
theorem State.spsrOf_setSpsrOf_other (s : State) {m m' : Mode} (h : m' ≠ m) (q : PSR) :
    (s.setSpsrOf m q).spsrOf m' = s.spsrOf m' := by
  cases m with
  | usr | sys => rfl
  | fiq | irq | svc | abt | und =>
    cases m' with
    | usr | sys => rfl
    | fiq | irq | svc | abt | und => simp [State.setSpsrOf, State.spsrOf] at h ⊢

theorem State.spsr_of_mode {s : State} {m : Mode} (hm : s.mode = some m) : s.spsr = s.spsrOf m := by
  simp only [State.spsr, hm, Option.bind_some]

theorem State.setSpsr_of_mode {s : State} {m : Mode} (hm : s.mode = some m) (q : PSR) :
    s.setSpsr q = s.setSpsrOf m q := by
  simp only [State.setSpsr, hm]

/-- A change of the current mode's SPSR completes, and changes that SPSR and the PC only. -/
theorem changeSpsr_of_spsrOf {s : State} {m : Mode} {p : PSR} (hm : s.mode = some m) (hp : s.spsrOf m = some p)
    (f : PSR → PSR) (hpc : s.pc ≠ 0xFFFFFFFC#32) :
    ∃ t, changeSpsr f s = .next t ∧ Advanced s t ∧ t.spsrOf m = some (f p) ∧
      (∀ m', m' ≠ m → t.spsrOf m' = s.spsrOf m') ∧ t.cpsr = s.cpsr ∧ t.regs = s.regs ∧ t.mem = s.mem := by
  have hchange : changeSpsr f s = advance (s.setSpsrOf m (f p)) := by
    simp only [changeSpsr, State.spsr_of_mode hm, hp, State.setSpsr_of_mode hm]
  refine ⟨_, hchange.trans (advance_of_ne (by simpa using hpc)), ⟨by simp, by simp⟩,
    State.spsrOf_setSpsrOf_same hp (f p), fun _ hne => s.spsrOf_setSpsrOf_other hne (f p), by simp, by simp, by simp⟩

/-! ### MRS and MSR once their condition passes -/

section
variable {c : Cond} {s : State}

theorem exec_mrs (hc : condPassed c s.cpsr = true) {ps : Bool} {rd : Reg} (hd : rd ≠ 15#4) {p : PSR}
    (hp : sourcePsr ps s = some p) :
    exec (.mrs c ps rd) s = advance (s.drawn.setReg rd (p.toWord (s.nextDraw 20))) := by
  refine (conditionally_pass hc).trans ?_
  simp only [beq_false_of_ne hd, refuseIf_false, hp]

theorem exec_msrReg (hc : condPassed c s.cpsr = true) {rm : Reg} (hrm : rm ≠ 15#4) (pd : Bool) :
    exec (.msrReg c pd rm) s =
      if pd then changeSpsr (fun _ => PSR.ofWord (s.readReg 8#32 rm)) s else writeWholeCpsr (s.readReg 8#32 rm) s := by
  refine (conditionally_pass hc).trans ?_
  rw [beq_false_of_ne hrm, refuseIf_false]

theorem exec_msrFlagsReg (hc : condPassed c s.cpsr = true) {rm : Reg} (hrm : rm ≠ 15#4) (pd : Bool) :
    exec (.msrFlagsReg c pd rm) s = writePsrFlags pd (s.readReg 8#32 rm) s := by
  refine (conditionally_pass hc).trans ?_
  rw [beq_false_of_ne hrm, refuseIf_false]

theorem exec_msrFlagsImm (hc : condPassed c s.cpsr = true) (pd : Bool) (o : RotImm) :
    exec (.msrFlagsImm c pd o) s = writePsrFlags pd (rotImmValue o) s :=
  conditionally_pass hc

end

/-! ### Writes of the CPSR (42_psr_transfer.md R302 to R306) -/

theorem State.privileged_iff {s : State} : s.privileged = true ↔ s.cpsr.m ≠ 0b10000#5 := bne_iff_ne

theorem writeWholeCpsr_user {s : State} (h : s.cpsr.m = 0b10000#5) (v : Word) :
    writeWholeCpsr v s = advance { s with cpsr := s.cpsr.withFlagsOf v } :=
  if_neg fun hpriv => State.privileged_iff.mp hpriv h

theorem writeWholeCpsr_privileged {s : State} (h : s.cpsr.m ≠ 0b10000#5) (v : Word) :
    writeWholeCpsr v s =
      refuseIf (v.getLsbD 5 != s.cpsr.t) .tBitChange (advance { s with cpsr := PSR.ofWord v }) :=
  if_pos (State.privileged_iff.mpr h)

/-! ### The obligations -/

/-- Settles O30: the source, with the next free value in its reserved bits, is written to Rd and the PC advances. -/
theorem mrsReadsTheStatusRegister : Obligations.MrsReadsTheStatusRegister := by
  intro c ps rd s p hc hd hp hpc
  have hsource : sourcePsr ps s = some p := by
    cases ps with
    | false => exact congrArg some hp.symm
    | true => exact hp
  obtain ⟨t, hend, hadv, hheld, hwritten⟩ := advance_setReg s.drawn hd (p.toWord (s.nextDraw 20)) hpc
  obtain ⟨hn, hz, hcarry, hv, hreserved, hi, hf, ht, hmode⟩ := PSR.toWord_eq_iff.mp (rfl : p.toWord (s.nextDraw 20) = _)
  exact ⟨t, _, (exec_mrs hc hd hsource).trans hend, ⟨hadv.pc, hadv.bankHazard⟩, hheld, hn, hz, hcarry, hv, hreserved, hi, hf,
    ht, hmode, hwritten.cpsr, hwritten.unchanged s.drawn_core rfl, memoryKept_of_eq hwritten.mem, hwritten.draws⟩

/-- Settles O31: the mode and bit 5 of the source decide what a write of the CPSR does; the SPSR takes all twelve bits. -/
theorem msrWritesTheWholeStatusRegister : Obligations.MsrWritesTheWholeStatusRegister := by
  rintro c rm s v hc hrm rfl
  have hcpsr : exec (.msrReg c false rm) s = writeWholeCpsr (s.readReg 8#32 rm) s := exec_msrReg hc hrm false
  refine ⟨fun huser hpc => ?user, fun hpriv ht hpc => ?whole, fun hpriv ht => ?tBit, fun m hm husr hsys hpc => ?spsr⟩
  case user => exact (hcpsr.trans (writeWholeCpsr_user huser _)).trans (advance_of_ne hpc)
  case whole =>
    rw [hcpsr, writeWholeCpsr_privileged hpriv, bne_eq_false_iff_eq.mpr ht, refuseIf_false]
    exact advance_of_ne hpc
  case tBit => rw [hcpsr, writeWholeCpsr_privileged hpriv, bne_iff_ne.mpr ht, refuseIf_true]
  case spsr =>
    obtain ⟨p, hp⟩ := s.spsrOf_isSome husr hsys
    obtain ⟨t, hend, hrest⟩ := changeSpsr_of_spsrOf hm hp (fun _ => PSR.ofWord (s.readReg 8#32 rm)) hpc
    exact ⟨t, (exec_msrReg hc hrm true).trans hend, hrest⟩

/-- Settles O32: both forms are one write of the flags, of the value of their source. -/
theorem msrWritesTheFlags : Obligations.MsrWritesTheFlags := by
  intro c rm o s v i hc hi hpc
  have hexec : ∀ pd, exec (i pd) s = writePsrFlags pd v s := by
    obtain ⟨hrm, rfl, rfl⟩ | ⟨rfl, rfl⟩ := hi
    · exact exec_msrFlagsReg hc hrm
    · exact fun pd => exec_msrFlagsImm hc pd o
  refine ⟨(hexec false).trans (advance_of_ne hpc), fun m p hm hp => ?_⟩
  obtain ⟨t, hend, hrest⟩ := changeSpsr_of_spsrOf hm hp (fun p => p.withFlagsOf v) hpc
  exact ⟨t, (hexec true).trans hend, hrest⟩

end Sys2Proof.Machine

/-! SUPPORT. How the multiplies end, and what their restrictions say of the registers named (43_multiply.md R320 to R336): what
O33 and O34 rest on. -/

namespace Sys2Proof.Machine

/-! ### The ends of the multiplies (43_multiply.md R324, R336) -/

/-- Register writes, then a change of the CPSR and of the count of free values, then the advance. -/
theorem RegsWritten.advance_flags {s u v : State} {w : List (Option PhysReg)} (h : RegsWritten s u w)
    (hu : u.pc = s.pc) (hv : v = { u with cpsr := v.cpsr, draws := v.draws }) (hpc : s.pc ≠ 0xFFFFFFFC#32) :
    ∃ t, advance v = .next t ∧ Advanced s t ∧ (∀ q x, Holds u q x → Holds t q x) ∧ t.cpsr = v.cpsr ∧
      Unchanged s t w ∧ MemoryKept s t := by
  rw [hv]
  refine ⟨_, advance_of_ne (by simpa only [hu] using hpc), ⟨congrArg (· + 4#32) hu, h.bankHazard⟩, fun _ _ held => held,
    rfl, ?_, memoryKept_of_eq h.mem⟩
  exact ⟨h.regs, h.spsrFiq, h.spsrIrq, h.spsrSvc, h.spsrAbt, h.spsrUnd, h.bigend, h.om, h.map, h.misaligned, h.aborts,
    h.inputs, h.sfrLog⟩

/-- The end of MUL and MLA: with S the flags are set after Rd is written. -/
theorem writeProduct_next (sf : Bool) {rd : Reg} (hd : rd ≠ 15#4) (r : Word) {s : State} (hpc : s.pc ≠ 0xFFFFFFFC#32) :
    ∃ t, writeProduct sf rd r s = .next t ∧ Advanced s t ∧ Holds t (bank s.cpsr.m rd) r ∧
      t.cpsr = (if sf then
        { s.cpsr with n := r.getLsbD 31, z := r == 0#32, c := (Config.draw 1 s.draws).getLsbD 0 }
        else s.cpsr) ∧
      Unchanged s t [bank s.cpsr.m rd] ∧ MemoryKept s t := by
  have hwritten := s.setReg_written rd r
  have hheld := s.setReg_holds hd r
  have hu : (s.setReg rd r).pc = s.pc := State.setReg_pc ..
  unfold writeProduct
  generalize s.setReg rd r = u at hwritten hheld hu ⊢
  cases sf with
  | false =>
    obtain ⟨t, hend, hadv, hkept, hcpsr, hframe⟩ := hwritten.advance_flags (v := u) hu rfl hpc
    exact ⟨t, hend, hadv, hkept _ _ hheld, hcpsr.trans hwritten.cpsr, hframe⟩
  | true =>
    obtain ⟨t, hend, hadv, hkept, hcpsr, hframe⟩ := hwritten.advance_flags (v := u.setMulFlags r) hu rfl hpc
    refine ⟨t, hend, hadv, hkept _ _ hheld, hcpsr.trans ?_, hframe⟩
    rw [State.setMulFlags_cpsr, State.nextDraw, hwritten.cpsr, hwritten.draws, BitVec.msb_eq_getLsbD_last]
    rfl

/-- Two different registers written one after the other hold both values. -/
theorem State.setReg_setReg_written (s : State) {i j : Reg} (hi : i ≠ 15#4) (hj : j ≠ 15#4) (hij : i ≠ j) (x y : Word) :
    RegsWritten s ((s.setReg j y).setReg i x) [bank s.cpsr.m i, bank s.cpsr.m j] ∧
      Holds ((s.setReg j y).setReg i x) (bank s.cpsr.m i) x ∧ Holds ((s.setReg j y).setReg i x) (bank s.cpsr.m j) y := by
  have hsecond := (s.setReg j y).setReg_written i x
  have hheld := (s.setReg j y).setReg_holds hi x
  rw [State.setReg_cpsr] at hsecond hheld
  exact ⟨(s.setReg_written j y).trans hsecond, hheld,
    (s.setReg_holds hj y).kept hsecond (by simpa using bank_ne hj (Ne.symm hij))⟩

/-- The end of the long multiplies: RdLo is written before RdHi, which is another register; with S the flags follow. -/
theorem writeLongProduct_next (sf : Bool) {rdHi rdLo : Reg} (hhi : rdHi ≠ 15#4) (hlo : rdLo ≠ 15#4) (hne : rdHi ≠ rdLo)
    (r : BitVec 64) {s : State} (hpc : s.pc ≠ 0xFFFFFFFC#32) :
    ∃ t, writeLongProduct sf rdHi rdLo r s = .next t ∧ Advanced s t ∧
      Holds t (bank s.cpsr.m rdHi) (r.extractLsb' 32 32) ∧ Holds t (bank s.cpsr.m rdLo) (r.extractLsb' 0 32) ∧
      t.cpsr = (if sf then
        { s.cpsr with n := r.getLsbD 63, z := r == 0#64, c := (Config.draw 1 s.draws).getLsbD 0,
                      v := (Config.draw 1 (s.draws + 1)).getLsbD 0 }
        else s.cpsr) ∧
      Unchanged s t [bank s.cpsr.m rdHi, bank s.cpsr.m rdLo] ∧ MemoryKept s t := by
  obtain ⟨hwritten, hhiHeld, hloHeld⟩ := s.setReg_setReg_written hhi hlo hne (r.extractLsb' 32 32) (r.extractLsb' 0 32)
  have hu : ((s.setReg rdLo (r.extractLsb' 0 32)).setReg rdHi (r.extractLsb' 32 32)).pc = s.pc := by simp
  unfold writeLongProduct
  generalize (s.setReg rdLo (r.extractLsb' 0 32)).setReg rdHi (r.extractLsb' 32 32) = u at hwritten hhiHeld hloHeld hu ⊢
  cases sf with
  | false =>
    obtain ⟨t, hend, hadv, hkept, hcpsr, hframe⟩ := hwritten.advance_flags (v := u) hu rfl hpc
    exact ⟨t, hend, hadv, hkept _ _ hhiHeld, hkept _ _ hloHeld, hcpsr.trans hwritten.cpsr, hframe⟩
  | true =>
    obtain ⟨t, hend, hadv, hkept, hcpsr, hframe⟩ := hwritten.advance_flags (v := u.setLongFlags r) hu rfl hpc
    refine ⟨t, hend, hadv, hkept _ _ hhiHeld, hkept _ _ hloHeld, hcpsr.trans ?_, hframe⟩
    rw [State.setLongFlags_cpsr, State.nextDraw, State.nextDraw, State.drawn_draws, hwritten.cpsr, hwritten.draws,
      BitVec.msb_eq_getLsbD_last]
    rfl

/-! ### What the restrictions say of the registers (43_multiply.md R323, R335) -/

theorem MulForm.rd_ne_r15 {i : Instr} {s : State} {f : MulForm} (h : mulForm i s = some f) (hb : f.broken = none) :
    f.rd ≠ 15#4 := by
  cases i <;> simp only [mulForm, Option.some.injEq, reduceCtorEq] at h <;> subst h <;>
    simp only [firstBroken_cons_none, Bool.or_eq_false_iff, beq_eq_false_iff_ne] at hb
  case mul => exact hb.1.1.1
  case mla => exact hb.1.1.1.1

theorem LongForm.destinations_of_allowed {f : LongForm} (hb : f.broken = none) :
    f.rdHi ≠ 15#4 ∧ f.rdLo ≠ 15#4 ∧ f.rdHi ≠ f.rdLo := by
  simp only [LongForm.broken, firstBroken_cons_none, Bool.or_eq_false_iff, beq_eq_false_iff_ne] at hb
  obtain ⟨⟨⟨⟨hhi, hlo⟩, -⟩, -⟩, ⟨⟨hne, -⟩, -⟩, -⟩ := hb
  exact ⟨hhi, hlo, hne⟩

/-! ### The obligations -/

/-- Settles O33: the product of words is the product modulo 2^32, and the end writes it and the flags. -/
theorem multiplyWritesItsResult : Obligations.MultiplyWritesItsResult := by
  intro i s f hf hc hb hpc
  refine ⟨?mul, ?mla, ?complete⟩
  case mul =>
    rintro c sf rd rn rs rm rfl
    cases hf
    exact BitVec.toNat_mul ..
  case mla =>
    rintro c sf rd rn rs rm rfl
    cases hf
    rw [BitVec.toNat_add, BitVec.toNat_mul, Nat.mod_add_mod]
  case complete =>
    rw [exec_mulForm hf hc hb]
    exact writeProduct_next f.sf (MulForm.rd_ne_r15 hf hb) f.result hpc

/-- Settles O34: the end writes the exact result modulo 2^64 and the flags, and the two destinations differ. -/
theorem longMultiplyWritesItsResult : Obligations.LongMultiplyWritesItsResult := by
  rintro i s f r hf hc hb hpc rfl
  obtain ⟨hhi, hlo, hne⟩ := LongForm.destinations_of_allowed hb
  rw [exec_longForm hf hc hb]
  exact writeLongProduct_next f.sf hhi hlo hne _ hpc

end Sys2Proof.Machine

/-! SUPPORT. What a store of any width leaves in memory, and single transfers whose access aborts (44_single_data_transfer.md
R350 to R373): what O35, O36, O38 and O40 rest on. -/

namespace Sys2Proof.Machine

/-! ### The unit that a store leaves in memory (20_memory.md R103) -/

theorem lowPart_toNat (z : Size) (v : Word) : (lowPart z v).toNat = v.toNat % 2 ^ (8 * z.bytes) :=
  Nat.mod_eq_of_lt (lt_of_le_of_lt (Nat.mod_le ..) v.isLt)

/-- A unit laid out in bytes and read back is the low part of the value, in either byte order. -/
theorem assemble_disassemble_unit (bigend : Bool) (z : Size) (v : Word) :
    assemble bigend (disassemble bigend z.bytes v) = lowPart z v := by
  cases z with
  | byte => exact (assemble_disassemble_byte bigend v).trans (BitVec.eq_of_toNat_eq (by simp [lowPart, Size.bytes]))
  | half => exact (assemble_disassemble_half bigend v).trans (BitVec.eq_of_toNat_eq (by simp [lowPart, Size.bytes]))
  | word =>
    exact (assemble_disassemble_word bigend v).trans (by simp [lowPart, Size.bytes, Nat.mod_eq_of_lt v.isLt])

/-- A unit stored where every byte is RAM reads as the low part of the value. -/
theorem readMem_writeMem {s : State} {z : Size} {a : Word} (hram : ∀ x, touches z a x → kindAt s.map x = some .ram)
    (v : Word) : (s.writeMem z (alignDown z a) v).readMem z (alignDown z a) = lowPart z v := by
  have hbytes := Memory.readBytes_writeBytes_same s.isRam (disassemble s.bigend z.bytes v) s.mem
    (a := (alignDown z a).toNat) fun x hlo hhi => by simp [State.isRam, hram x ⟨hlo, by simpa using hhi⟩]
  rw [disassemble_length] at hbytes
  rw [State.readMem, State.writeMem_mem, State.writeMem_bigend, hbytes, assemble_disassemble_unit]

/-- What a read of memory gives depends on the bytes and the byte order only. -/
theorem State.readMem_congr {s t : State} (hm : t.mem = s.mem) (he : t.bigend = s.bigend) (z : Size) (a : Word) :
    t.readMem z a = s.readMem z a := by
  simp only [State.readMem, hm, he]

/-- A store that no alignment rule refuses and that can complete in ordinary memory writes the low part of its value. -/
theorem storeOf_of_canWrite {z : Size} {a : Word} {priv : Bool} {s : State} (h : s.CanWrite z a priv)
    (hh : z = .half → a.getLsbD 0 = false) (hu : z = .word → s.refusesUnaligned a = false) (v : Word) :
    storeOf z a v priv s = .done () (s.writeMem z (alignDown z a) (lowPart z v)) :=
  (storeOf_eq hh hu v priv).trans (storeUnit_of_canWrite h)

/-! ### Aborted accesses (44_single_data_transfer.md R355, R371) -/

/-- A load whose unit aborts does, unless it is of a halfword at an odd address. -/
theorem LoadKind.load_aborted {k : LoadKind} {a : Word} {priv : Bool} {s : State}
    (hh : k.size = .half → a.getLsbD 0 = false) (ha : s.abortsAccess .read a k.size priv = true) :
    k.load a priv s = .aborted := by
  have hunit := loadUnit_aborted.mpr ha
  cases k <;> simp only [LoadKind.size] at hunit hh <;>
    simp only [LoadKind.load, loadWord, loadByte, loadSignedByte, loadHalf, loadSignedHalf, hunit, hh,
      MemResult.mapValue, Bool.false_eq_true, if_false]

/-- A store that no alignment rule refuses and whose unit aborts does, also into the prefetched words. -/
theorem storeOf_aborted {z : Size} {a : Word} {priv : Bool} {s : State} (hh : z = .half → a.getLsbD 0 = false)
    (hu : z = .word → s.refusesUnaligned a = false) (ha : s.abortsAccess .write a z priv = true) (v : Word) :
    storeOf z a v priv s = .aborted :=
  (storeOf_eq hh hu v priv).trans (storeUnit_aborted.mpr ha)

theorem exec_loadForm_aborted {i : Instr} {s : State} {f : TransferForm} (hf : loadForm i s = some f)
    (hc : condPassed f.cond s.cpsr = true) (hb : f.broken = none)
    (hh : f.kind.size = .half → f.x.addr.getLsbD 0 = false)
    (ha : s.abortsAccess .read f.x.addr f.kind.size f.priv = true) :
    exec i s = dataAbort (s.writeBase f.rn f.x) := by
  rw [exec_loadForm hf hc hb, LoadKind.load_aborted hh ha]
  rfl

theorem exec_storeForm_aborted {i : Instr} {s : State} {f : TransferForm} (hf : storeForm i s = some f)
    (hc : condPassed f.cond s.cpsr = true) (hb : f.broken = none)
    (hh : f.kind.size = .half → f.x.addr.getLsbD 0 = false)
    (hu : f.kind.size = .word → s.refusesUnaligned f.x.addr = false)
    (ha : s.abortsAccess .write f.x.addr f.kind.size f.priv = true) :
    exec i s = dataAbort (s.writeBase f.rn f.x) := by
  rw [exec_storeForm hf hc hb, storeOf_aborted hh hu ha]
  rfl

theorem not_mem_baseWritten {s : State} {rn : Reg} {x : Indexed} {p : Option PhysReg} :
    p ∉ baseWritten s rn x ↔ x.writeBack = none ∨ bank s.cpsr.m rn ≠ p := by
  cases h : x.writeBack <;> simp [baseWritten, h, eq_comm]

/-! ### The obligations -/

/-- Settles O35: the load gives the value of its kind in the same state, and then ends as any load of a register. -/
theorem loadsReadMemory : Obligations.LoadsReadMemory := by
  intro i s f hf hc hb hrd hpc hread hh
  obtain ⟨t, hend, hadv, hval, hheld, hwritten⟩ := finishLoad_register s s
    (f.kind.value f.x.addr (s.readMem f.kind.size (alignDown f.kind.size f.x.addr))) hrd (loadForm_writeBack hf hb) hpc
  rw [exec_loadForm hf hc hb, LoadKind.load_of_canRead hread hh]
  exact ⟨t, hend, hadv, hval, hheld, hwritten.cpsr, hwritten.toUnchanged, memoryKept_of_eq hwritten.mem,
    hwritten.draws⟩

/-- Settles O36: the load ends in a write of the PC in ARM state, after the base is written back. -/
theorem loadsIntoThePc : Obligations.LoadsIntoThePc := by
  intro i s f v hf hc hb hrd ht hread hh hv
  rw [exec_loadForm hf hc hb, LoadKind.load_of_canRead hread hh, ← hv, hrd]
  refine ⟨fun halign => ?aligned, fun halign => ?unaligned⟩
  case aligned =>
    obtain ⟨t, hend, hpc, hheld, hwritten⟩ := finishLoad_pc s s (fun h => (loadForm_writeBack hf hb h).1) ht halign
    exact ⟨t, hend, hpc, hwritten.cpsr, hwritten.bankHazard, hheld, hwritten.toUnchanged,
      memoryKept_of_eq hwritten.mem⟩
  case unaligned => exact finishLoad_pc_unaligned s s f.x f.rn ht halign

/-- Settles O38: the store writes the low part of the register where every byte is RAM, and then only the base and the PC
are written. -/
theorem storesWriteMemory : Obligations.StoresWriteMemory := by
  intro i s f hf hc hb hpc hwrite hram hh hu
  have hdone := storeUnit_of_canWrite (v := lowPart f.kind.size (s.readReg 12#32 f.rd)) hwrite
  obtain ⟨t, hend, hadv, hheld, hwritten⟩ := finishStore_done s
    (s.writeMem f.kind.size (alignDown f.kind.size f.x.addr) (lowPart f.kind.size (s.readReg 12#32 f.rd)))
    (fun h => (storeForm_writeBack hf hb h).1) hpc
  rw [exec_storeForm hf hc hb, storeOf_of_canWrite hwrite hh hu]
  refine ⟨t, hend, ⟨hadv.pc, hadv.bankHazard⟩, ?stored, fun x hx => ?outside, hheld, hwritten.cpsr,
    hwritten.unchanged (storeUnit_core hdone) rfl, hwritten.draws⟩
  case stored =>
    rw [State.readMem_congr hwritten.mem hwritten.bigend, readMem_writeMem hram, lowPart_toNat, lowPart_toNat,
      Nat.mod_mod]
  case outside => rw [hwritten.mem, storeUnit_outside hdone x hx]

/-- Settles O40: the aborted transfer is the data abort taken after the base is written back. -/
theorem singleTransferDataAbort : Obligations.SingleTransferDataAbort := by
  intro i s f hc hb haborts hh
  have hexec : exec i s = dataAbort (s.writeBase f.rn f.x) := by
    obtain ⟨hf, ha⟩ | ⟨hf, ha, hu⟩ := haborts
    · exact exec_loadForm_aborted hf hc hb hh ha
    · exact exec_storeForm_aborted hf hc hb hh hu ha
  have hother : ∀ q, q ≠ PhysReg.r14abt →
      (enterException .dataAbort ((s.writeBase f.rn f.x).pc + 8#32) (s.writeBase f.rn f.x)).gpr q =
        (s.writeBase f.rn f.x).gpr q := fun q hq => enterException_gpr_other .dataAbort _ _ hq
  refine ⟨_, hexec, rfl, ?link, ?spsr, ?cpsr, ?mem, ?log, fun q v hv hq hne => ?base, fun q hne hkept => ?others,
    ?fiq, ?irq, ?svc, ?und⟩
  case link => exact (enterException_gpr_link .dataAbort _ _).trans (by rw [State.writeBase_pc])
  case spsr => exact State.writeBase_cpsr ..
  case cpsr => simp [ExceptionKind.enteredCpsr, ExceptionKind.masksFiq, ExceptionKind.mode, Mode.bits]
  case mem => exact (enterException_mem ..).trans (State.writeBase_mem ..)
  case log => exact (enterException_sfrLog ..).trans (State.writeBase_sfrLog ..)
  case base => rw [hother q hne, State.writeBase, hv, State.gpr_setReg_same hq]
  case others => rw [hother q hne, (s.writeBase_written f.rn f.x).regs q (not_mem_baseWritten.mpr hkept)]
  case fiq => exact State.writeBase_spsrFiq ..
  case irq => exact State.writeBase_spsrIrq ..
  case svc => exact State.writeBase_spsrSvc ..
  case und => exact State.writeBase_spsrUnd ..

end Sys2Proof.Machine

/-! SUPPORT. Runs of block loads and stores, in ordinary memory and in special registers, completed and aborted
(45_block_data_transfer.md R401 to R410): what O42 to O49 and O54 rest on. -/

namespace Sys2Proof.Machine

/-! ### The registers of a list (45_block_data_transfer.md R401, R402) -/

theorem regsOf_nodup (list : BitVec 16) : (regsOf list).Nodup :=
  List.Nodup.filter _ (by decide)

theorem regsOf_length_le (list : BitVec 16) : (regsOf list).length ≤ 16 :=
  List.length_filter_le ..

theorem r15_mem_regsOf {list : BitVec 16} : 15#4 ∈ regsOf list ↔ list.getLsbD 15 = true := by
  simp [regsOf]

/-- R15 comes last. -/
theorem regsOf_last {list : BitVec 16} (h : list.getLsbD 15 = true) :
    ∃ low, regsOf list = low ++ [15#4] := by
  refine ⟨[0#4, 1#4, 2#4, 3#4, 4#4, 5#4, 6#4, 7#4, 8#4, 9#4, 10#4, 11#4, 12#4, 13#4, 14#4].filter
    (fun i => list.getLsbD i.toNat), ?_⟩
  have hlast : [15#4].filter (fun i => list.getLsbD i.toNat) = [15#4] := by simpa using h
  exact (List.filter_append (l₁ := [_, _, _, _, _, _, _, _, _, _, _, _, _, _, _]) [15#4]).trans (by rw [hlast])

/-- No register of the list but the last is R15. -/
theorem regsOf_ne_r15 {list : BitVec 16} {j : Nat} (h : j + 1 < (regsOf list).length) : (regsOf list)[j] ≠ 15#4 := by
  intro e
  have hnodup := regsOf_nodup list
  obtain ⟨low, hlow⟩ := regsOf_last (r15_mem_regsOf.mp (e ▸ List.getElem_mem _))
  simp only [hlow] at h e hnodup
  rw [List.nodup_append] at hnodup
  simp only [List.length_append, List.length_singleton] at h
  rw [List.getElem_append_left (by omega)] at e
  exact hnodup.2.2 _ (List.getElem_mem _) _ (List.mem_singleton.mpr rfl) e

theorem regsOf_getElem_ne_r15 {list : BitVec 16} (h15 : list.getLsbD 15 = false) {j : Nat}
    (h : j < (regsOf list).length) : (regsOf list)[j] ≠ 15#4 := by
  intro e
  exact Bool.false_ne_true (h15.symm.trans (r15_mem_regsOf.mp (e ▸ List.getElem_mem h)))

theorem regsOf_getLast {list : BitVec 16} {n : Nat} (h15 : list.getLsbD 15 = true) (hn : (regsOf list).length = n + 1) :
    (regsOf list)[n] = 15#4 := by
  obtain ⟨low, hlow⟩ := regsOf_last h15
  simp only [hlow, List.length_append, List.length_singleton, Nat.add_right_cancel_iff] at hn ⊢
  exact List.getElem_concat_length hn.symm _

/-! ### Banks that a block transfer names -/

/-- `put` writes the register that `names` gives, in states with mode bits `m`. -/
structure WritesBank (m : BitVec 5) (put : State → Reg → Word → State) (names : Reg → Option PhysReg) : Prop where
  written : ∀ u i v, u.cpsr.m = m → RegsWritten u (put u i v) [names i]
  holds : ∀ u i v, u.cpsr.m = m → i ≠ 15#4 → Holds (put u i v) (names i) v
  ne : ∀ i j, i ≠ 15#4 → i ≠ j → names i ≠ names j

theorem setReg_writesBank (m : BitVec 5) : WritesBank m State.setReg (bank m) where
  written u i v hm := hm ▸ u.setReg_written i v
  holds u _ v hm hi := hm ▸ u.setReg_holds hi v
  ne _ _ hi hij := bank_ne hi hij

/-- Registers from the `k`-th of a list on are none of those before it. -/
theorem WritesBank.not_mem_take {m : BitVec 5} {put : State → Reg → Word → State} {names : Reg → Option PhysReg}
    (h : WritesBank m put names) {list : BitVec 16} {j k : Nat} (hkj : k ≤ j) (hj : j < (regsOf list).length) :
    names (regsOf list)[j] ∉ ((regsOf list).take k).map names := by
  intro hmem
  obtain ⟨g, hg, hgj⟩ := List.mem_map.mp hmem
  obtain ⟨l, hl, rfl⟩ := List.mem_take_iff_getElem.mp hg
  have hne : (regsOf list)[l] ≠ (regsOf list)[j] := fun e =>
    absurd ((regsOf_nodup list).getElem_inj_iff.mp e) (by omega)
  exact h.ne _ _ (regsOf_ne_r15 (by omega)) hne hgj

/-- The User bank is the bank of User mode. -/
theorem userBank_eq_bank : userBank = bank Mode.usr.bits := rfl

theorem State.setUserReg_written (s : State) (i : Reg) (v : Word) :
    RegsWritten s (s.setUserReg i v) [userBank i] := by
  constructor
  case toUnchanged =>
    constructor
    case regs => exact fun q hq => State.gpr_setUserReg_other s i v (by simpa using hq)
    all_goals simp
  all_goals simp

theorem setUserReg_writesBank (m : BitVec 5) : WritesBank m State.setUserReg userBank where
  written u i v _ := u.setUserReg_written i v
  holds u i v _ hi := by
    obtain ⟨q, hq⟩ := bank_isSome Mode.usr.bits hi
    exact ⟨q, hq, State.gpr_setUserReg_same hq v⟩
  ne _ _ hi hij := userBank_eq_bank ▸ bank_ne hi hij

/-! ### Runs of reads -/

theorem wordAddr_succ (a : Word) (k : Nat) : wordAddr a (k + 1) = wordAddr a k + 4#32 := by
  simp only [wordAddr, Nat.mul_succ, BitVec.ofNat_add, BitVec.add_assoc]

/-- The first `k` words from `a`, read in turn from the state `s`, are `vals`, and the last read leaves the state
given. -/
inductive ReadsTo (priv : Bool) (a : Word) (vals : Nat → Word) (s : State) : Nat → State → Prop where
  | zero : ReadsTo priv a vals s 0 s
  | succ {k : Nat} {t u : State} (h : ReadsTo priv a vals s k t)
      (hread : loadUnit .word (wordAddr a k) priv t = .done (vals k) u) : ReadsTo priv a vals s (k + 1) u

theorem ReadsTo.core {priv : Bool} {a : Word} {vals : Nat → Word} {s t : State} {k : Nat}
    (h : ReadsTo priv a vals s k t) : CoreKept s t ∧ t.mem = s.mem := by
  induction h with
  | zero => exact ⟨.rfl, rfl⟩
  | succ _ hread ih =>
    obtain ⟨hcore, hmem⟩ := loadUnit_core hread
    exact ⟨ih.1.trans hcore, hmem.trans ih.2⟩

/-- Words of ordinary memory read as what memory holds, and nothing changes. -/
theorem readsTo_memory {a : Word} {s : State} {n : Nat} {priv : Bool}
    (h : ∀ k, k < n → s.CanRead .word (wordAddr a k) priv) :
    ReadsTo priv a (fun k => s.readMem .word (alignDown .word (wordAddr a k))) s n s := by
  induction n with
  | zero => exact .zero
  | succ n ih => exact .succ (ih fun k hk => h k (by omega)) (loadUnit_of_canRead (h n (by omega)))

theorem RegsWritten.sfrReadDone {s u : State} {w : List (Option PhysReg)} (h : RegsWritten s u w) (r : SfrRow)
    (z : Size) : RegsWritten (s.sfrReadDone r z) (u.sfrReadDone r z) w :=
  { h with
    sfrLog := congrArg (fun log => log ++ [SfrEvent.read r.name z]) h.sfrLog
    draws := congrArg (· + 1) h.draws }

theorem RegsWritten.abortsAccess {s u : State} {w : List (Option PhysReg)} (h : RegsWritten s u w) (k : AccessKind)
    (a : Word) (z : Size) (priv : Bool) : u.abortsAccess k a z priv = s.abortsAccess k a z priv := by
  simp only [State.abortsAccess, h.aborts]

/-- What a read gives does not depend on the PC and the registers. -/
theorem loadUnit_of_regsWritten {s u s' : State} {z : Size} {a d : Word} {priv : Bool} {w : List (Option PhysReg)}
    (hw : RegsWritten s u w) (h : loadUnit z a priv s = .done d s') :
    ∃ u', loadUnit z a priv u = .done d u' ∧ RegsWritten s' u' w := by
  obtain ⟨hread, rfl, rfl⟩ | ⟨hwin, r, hrow, hr, rfl, rfl⟩ := loadUnit_done h
  · have hread' : u.CanRead z a priv :=
      ⟨(hw.abortsAccess ..).trans hread.not_aborted, hread.not_sfr, by simpa only [hw.map] using hread.mapped⟩
    rw [loadUnit_of_canRead hread', State.readMem_congr hw.mem hw.bigend]
    exact ⟨u, rfl, hw⟩
  · have ha : s.abortsAccess .read a z priv = false :=
      Bool.eq_false_iff.mpr fun ha => by rw [loadUnit_aborted.mpr ha] at h; cases h
    have hdone := loadUnit_of_sfr hwin ((hw.abortsAccess ..).trans ha)
      ((congrArg (sfrRow · _ _) hw.bigend).trans hrow) hr
    refine ⟨u.sfrReadDone r z, hdone.trans ?_, hw.sfrReadDone r z⟩
    simp only [State.nextDraw, hw.draws]
    rfl

theorem RegsWritten.mono {s t : State} {w w' : List (Option PhysReg)} (h : RegsWritten s t w) (hw : w ⊆ w') :
    RegsWritten s t w' :=
  { h with regs := fun q hq => h.regs q fun hmem => hq (hw hmem) }

theorem Holds.congr {s t : State} {p : Option PhysReg} {v : Word} (h : Holds s p v) (hr : t.regs = s.regs) :
    Holds t p v := by
  obtain ⟨q, hq, hv⟩ := h
  exact ⟨q, hq, (State.gpr_congr hr q).trans hv⟩

/-- Reads give the same words, whatever the PC and the registers. -/
theorem ReadsTo.of_regsWritten {priv : Bool} {a : Word} {vals : Nat → Word} {s s' u : State} {k : Nat}
    {w : List (Option PhysReg)} (h : ReadsTo priv a vals s k s') (hw : RegsWritten s u w) :
    ∃ u', ReadsTo priv a vals u k u' ∧ RegsWritten s' u' w := by
  induction h with
  | zero => exact ⟨u, .zero, hw⟩
  | succ _ hread ih =>
    obtain ⟨t', hreads, hw'⟩ := ih
    obtain ⟨u', hdone, hw''⟩ := loadUnit_of_regsWritten hw' hread
    exact ⟨u', .succ hreads hdone, hw''⟩

/-! ### Runs of block loads (R406) -/

/-- The state `t` after a run of block loads has put the words `vals` into the first `k` registers of `regs`, seen from
the state `u` at its start and the state `s` that its reads alone would leave. -/
structure RegsLoaded (names : Reg → Option PhysReg) (vals : Nat → Word) (regs : List Reg) (u s : State) (k : Nat)
    (t : State) : Prop where
  written : RegsWritten s t ((regs.take k).map names)
  regsOnly : RegsOnly u t
  holds : ∀ j, (h : j < regs.length) → j < k → Holds t (names regs[j]) (vals j)

/-- A run of block loads whose first words are read goes on with the rest of its list, R15 being none of the registers
so far. -/
theorem loadBlock_of_readsTo {m : BitVec 5} {put : State → Reg → Word → State} {names : Reg → Option PhysReg}
    (hbank : WritesBank m put names) (hput : ∀ s i v, RegsOnly s (put s i v)) {regs : List Reg} (hnodup : regs.Nodup)
    {a : Word} {vals : Nat → Word} {target : Option Word} {u s : State} {k : Nat} (hm : u.cpsr.m = m)
    (h : ReadsTo u.privileged a vals u k s) (hk : k ≤ regs.length)
    (h15 : ∀ j, (h : j < regs.length) → j < k → regs[j] ≠ 15#4) :
    ∃ t, loadBlock put regs a target u = loadBlock put (regs.drop k) (wordAddr a k) target t ∧
      RegsLoaded names vals regs u s k t := by
  induction h with
  | zero =>
    exact ⟨u, by simp, (u.setPc_written u.pc).mono (by simp), .rfl, fun _ _ hj => absurd hj (by omega)⟩
  | @succ k s s' _ hread ih =>
    obtain ⟨t, hrun, hloaded⟩ := ih (by omega) fun j hj hjk => h15 j hj (by omega)
    obtain ⟨t', hdone, hwritten⟩ := loadUnit_of_regsWritten hloaded.written hread
    have hi : regs[k] ≠ 15#4 := h15 k hk (by omega)
    have hpriv : t.privileged = u.privileged := hloaded.regsOnly.sameAccess.privileged
    obtain ⟨hcore, hmem⟩ := loadUnit_core hdone
    have honly : RegsOnly u t' := hloaded.regsOnly.trans (hcore.regsOnly hmem)
    have hm' : t'.cpsr.m = m := by rw [honly.cpsr, hm]
    have hwrite := hbank.written t' regs[k] (vals k) hm'
    refine ⟨put t' regs[k] (vals k), ?run, ?written, honly.trans (hput ..), fun j hj hjk => ?holds⟩
    case run =>
      rw [hrun, List.drop_eq_getElem_cons hk, loadBlock, hpriv, hdone, wordAddr_succ]
      simp only [hi, if_false]
    case written =>
      refine (hwritten.trans hwrite).mono ?_
      rw [← List.take_append_getElem hk, List.map_append]
      exact List.append_subset.mpr ⟨List.subset_append_right .., List.subset_append_left ..⟩
    case holds =>
      obtain rfl | hlt := Nat.eq_or_lt_of_le (Nat.le_of_lt_succ hjk)
      · exact hbank.holds t' _ _ hm' hi
      · refine ((hloaded.holds j hj hlt).congr hcore.regs).kept hwrite ?_
        have hne : regs[j] ≠ regs[k] := fun e => absurd ((hnodup.getElem_inj_iff).mp e) (by omega)
        simpa using hbank.ne _ _ (h15 j hj hjk) hne

/-! ### LDM over its run -/

/-- The write of a listed register by an LDM: in the User bank by the user-bank form, else in the current mode's. -/
def ldmPut (i : Instr) : State → Reg → Word → State :=
  match i with
  | .ldmUser _ _ _ _ _ _ => State.setUserReg
  | _ => State.setReg

/-- How an LDM ends once its words are loaded (R406 to R409). -/
def ldmFinish (i : Instr) (s : State) : Option Word → State → Outcome :=
  match i with
  | .ldmRestore _ _ _ _ _ _ => pcOrAdvance exceptionReturn
  | .ldmUser _ _ _ _ _ _ => fun _ t => advance { t with bankHazard := s.hasBank }
  | _ => pcOrAdvance writePc

/-- The hazard that an LDM without R15 leaves (70_reset_and_hazards.md R621). -/
def ldmHazard (i : Instr) (s : State) : Bool :=
  match i with
  | .ldmUser _ _ _ _ _ _ => s.spsr.isSome
  | _ => s.bankHazard

theorem ldmHazard_of_ne {i : Instr} (h : ∀ c p u w rn list, i ≠ .ldmUser c p u w rn list) (s : State) :
    ldmHazard i s = s.bankHazard := by
  unfold ldmHazard
  split
  · exact (h _ _ _ _ _ _ rfl).elim
  · rfl

/-- The run of loads of an LDM. -/
def BlockForm.loadsInto (f : BlockForm) (s : State) (put : State → Reg → Word → State) : BlockLoad :=
  loadBlock put (regsOf f.list) (f.start s) none (s.withNewBase f.w f.rn (f.newBase s))

/-- The registers that a block transfer writes its base back to. -/
def BlockForm.baseWritten (f : BlockForm) (s : State) : List (Option PhysReg) :=
  if f.w then [bank s.cpsr.m f.rn] else []

theorem BlockForm.not_mem_baseWritten {f : BlockForm} {s : State} {p : Option PhysReg}
    (h : bank s.cpsr.m f.rn ≠ p) : p ∉ f.baseWritten s := by
  cases hw : f.w <;> simp [BlockForm.baseWritten, hw, h.symm]

/-- An LDM with S = 0 seen as one of all LDMs. -/
theorem ldmForm_ldmAny {i : Instr} {f : BlockForm} (h : ldmForm i = some f) (s : State) :
    ldmAny i s = some (f, bank s.cpsr.m) ∧ sBitAllowed i s = true ∧ ldmPut i = State.setReg ∧
      ldmFinish i s = pcOrAdvance writePc ∧ ldmHazard i s = s.bankHazard := by
  cases i <;> simp only [ldmForm, Option.some.injEq, reduceCtorEq] at h <;> subst h <;>
    exact ⟨rfl, rfl, rfl, rfl, rfl⟩

/-- Which instructions are LDMs, and what bank each names. -/
theorem ldmAny_cases {i : Instr} {s : State} {f : BlockForm} {names : Reg → Option PhysReg}
    (h : ldmAny i s = some (f, names)) :
    (ldmForm i = some f ∧ names = bank s.cpsr.m) ∨
    (i = .ldmRestore f.cond f.p f.u f.w f.rn f.list ∧ names = bank s.cpsr.m) ∨
    (i = .ldmUser f.cond f.p f.u f.w f.rn f.list ∧ names = userBank) := by
  unfold ldmAny at h
  split at h
  case h_1 =>
    obtain ⟨rfl, rfl⟩ := Prod.mk.injEq .. ▸ Option.some.inj h
    exact .inr (.inl ⟨rfl, rfl⟩)
  case h_2 =>
    obtain ⟨rfl, rfl⟩ := Prod.mk.injEq .. ▸ Option.some.inj h
    exact .inr (.inr ⟨rfl, rfl⟩)
  case h_3 =>
    obtain ⟨hf, rfl⟩ : ldmForm i = some f ∧ bank s.cpsr.m = names := by simpa using h
    exact .inl ⟨hf, rfl⟩

theorem ldmPut_only (i : Instr) (s : State) (r : Reg) (v : Word) : RegsOnly s (ldmPut i s r v) := by
  unfold ldmPut
  split
  · exact s.setUserReg_only r v
  · exact s.setReg_only r v

section
variable {i : Instr} {s : State} {f : BlockForm} {names : Reg → Option PhysReg} (h : ldmAny i s = some (f, names))
include h

theorem ldmPut_writesBank : WritesBank s.cpsr.m (ldmPut i) names := by
  obtain ⟨hf, rfl⟩ | ⟨rfl, rfl⟩ | ⟨rfl, rfl⟩ := ldmAny_cases h
  · obtain ⟨-, -, hput, -, -⟩ := ldmForm_ldmAny hf s
    exact hput ▸ setReg_writesBank _
  · exact setReg_writesBank _
  · exact setUserReg_writesBank _

variable (hs : sBitAllowed i s = true)
include hs

/-- An LDM that writes its base back names the current mode's bank. -/
theorem ldmAny_names_of_writeBack (hw : f.w = true) : names = bank s.cpsr.m := by
  obtain ⟨-, hbank⟩ | ⟨-, hbank⟩ | ⟨rfl, -⟩ := ldmAny_cases h
  · exact hbank
  · exact hbank
  · simp [sBitAllowed, hw] at hs

/-- An LDM is one run of loads with its end, once no restriction is broken. -/
theorem exec_ldmAny (hc : condPassed f.cond s.cpsr = true) (hb : f.broken s = none) :
    exec i s = finishLoadBlock (ldmFinish i s) (f.abortedLoad s) (f.loadsInto s (ldmPut i)) := by
  obtain ⟨hf, -⟩ | ⟨rfl, -⟩ | ⟨rfl, -⟩ := ldmAny_cases h
  · obtain ⟨-, -, hput, hfinish, -⟩ := ldmForm_ldmAny hf s
    rw [exec_ldmForm hf hc, loadMultiple_eq, blockChecked_ok hb, hput, hfinish]
    rfl
  · obtain ⟨hpriv, hspsr⟩ : s.privileged = true ∧ s.spsr.isSome = true := by simpa [sBitAllowed] using hs
    refine (execLdmRestore_eq f s).trans ?_
    rw [conditionally_pass hc, hpriv, Option.isNone_eq_false_iff.mpr hspsr, blockChecked_ok hb]
    rfl
  · obtain ⟨hpriv, hw⟩ : s.privileged = true ∧ f.w = false := by simpa [sBitAllowed] using hs
    refine (execLdmUser_eq f s).trans ?_
    rw [conditionally_pass hc, hpriv, hw, blockChecked_ok hb]
    simp only [BlockForm.abortedLoad, BlockForm.loadsInto, hw]
    rfl

end

/-! ### How an LDM ends -/

/-- The state `t` once an LDM that writes its base back before its loads has loaded its first `k` registers; `r` is the
state that its reads alone would leave. -/
structure BlockForm.Loaded (f : BlockForm) (names : Reg → Option PhysReg) (vals : Nat → Word) (s r : State) (k : Nat)
    (t : State) : Prop where
  pc : t.pc = s.pc
  core : CoreKept s r
  mem : r.mem = s.mem
  written : RegsWritten r t (((regsOf f.list).take k).map names ++ f.baseWritten s)
  holds : ∀ j, (h : j < (regsOf f.list).length) → j < k → Holds t (names (regsOf f.list)[j]) (vals j)
  base : f.w = true → bank s.cpsr.m f.rn ∉ ((regsOf f.list).take k).map names →
    Holds t (bank s.cpsr.m f.rn) (f.newBase s)

theorem BlockForm.withNewBase_written (f : BlockForm) (s : State) (b : Word) :
    RegsWritten s (s.withNewBase f.w f.rn b) (f.baseWritten s) := by
  unfold State.withNewBase BlockForm.baseWritten
  cases f.w with
  | false => exact s.setPc_written s.pc
  | true => exact s.setReg_written f.rn b

/-- An LDM whose first words are read goes on with the rest of its list. -/
theorem BlockForm.loadsInto_of_readsTo {f : BlockForm} {s r : State} {put : State → Reg → Word → State}
    {names : Reg → Option PhysReg} {vals : Nat → Word} {k : Nat} (hb : f.broken s = none)
    (hbank : WritesBank s.cpsr.m put names) (hput : ∀ s i v, RegsOnly s (put s i v))
    (h : ReadsTo s.privileged (f.start s) vals s k r) (hk : k ≤ (regsOf f.list).length)
    (h15 : ∀ j, (h : j < (regsOf f.list).length) → j < k → (regsOf f.list)[j] ≠ 15#4) :
    ∃ t, f.loadsInto s put = loadBlock put ((regsOf f.list).drop k) (wordAddr (f.start s) k) none t ∧
      f.Loaded names vals s r k t := by
  have hbase := f.withNewBase_written s (f.newBase s)
  have honly := s.withNewBase_only f.w f.rn (f.newBase s)
  obtain ⟨r', hreads, hwritten⟩ := h.of_regsWritten hbase
  obtain ⟨t, hrun, hloaded⟩ := loadBlock_of_readsTo (target := none) hbank hput (regsOf_nodup f.list)
    (by rw [honly.cpsr]) (honly.sameAccess.privileged.symm ▸ hreads) hk h15
  refine ⟨t, hrun, hloaded.regsOnly.pc.trans honly.pc, h.core.1, h.core.2, hwritten.trans hloaded.written,
    hloaded.holds, fun hw hrn => ?_⟩
  have hheld : Holds (s.withNewBase f.w f.rn (f.newBase s)) (bank s.cpsr.m f.rn) (f.newBase s) := by
    rw [State.withNewBase, if_pos hw]
    exact s.setReg_holds (BlockForm.rn_ne_r15 hb) _
  exact (hheld.congr hreads.core.1.regs).kept hloaded.written hrn

section
variable {f : BlockForm} {names : Reg → Option PhysReg} {vals : Nat → Word} {s r t : State} {k : Nat}
  (h : f.Loaded names vals s r k t)
include h

theorem BlockForm.Loaded.cpsr : t.cpsr = s.cpsr :=
  h.written.cpsr.trans h.core.cpsr

theorem BlockForm.Loaded.bankHazard : t.bankHazard = s.bankHazard :=
  h.written.bankHazard.trans h.core.bankHazard

theorem BlockForm.Loaded.privileged : t.privileged = s.privileged := by
  simp only [State.privileged, h.cpsr]

theorem BlockForm.Loaded.spsr : t.spsr = s.spsr :=
  State.spsr_congr (by rw [h.cpsr]) (h.written.spsrFiq.trans h.core.spsrFiq) (h.written.spsrIrq.trans h.core.spsrIrq)
    (h.written.spsrSvc.trans h.core.spsrSvc) (h.written.spsrAbt.trans h.core.spsrAbt)
    (h.written.spsrUnd.trans h.core.spsrUnd)

/-- A register that is neither the base nor loaded so far is as it was. -/
theorem BlockForm.Loaded.kept {q : PhysReg} (hbase : bank s.cpsr.m f.rn ≠ some q)
    (hlisted : some q ∉ ((regsOf f.list).take k).map names) : t.gpr q = s.gpr q :=
  (h.written.regs q (List.not_mem_append hlisted (BlockForm.not_mem_baseWritten hbase))).trans
    (State.gpr_congr h.core.regs q)

/-- Reading one more word loads nothing yet. -/
theorem BlockForm.Loaded.read {r' : State} {z : Size} {a d : Word} {priv : Bool}
    (hread : loadUnit z a priv r = .done d r') :
    ∃ t', loadUnit z a priv t = .done d t' ∧ f.Loaded names vals s r' k t' := by
  obtain ⟨t', hdone, hwritten⟩ := loadUnit_of_regsWritten h.written hread
  obtain ⟨hcore, hmem⟩ := loadUnit_core hread
  have hcore' := (loadUnit_core hdone).1
  exact ⟨t', hdone, hcore'.pc.trans h.pc, h.core.trans hcore, hmem.trans h.mem, hwritten,
    fun j hj hjk => (h.holds j hj hjk).congr hcore'.regs, fun hw hrn => (h.base hw hrn).congr hcore'.regs⟩

end

/-- What a completed LDM has done to registers, memory, the log and the free values, `n` registers being loaded. -/
structure BlockForm.LoadDone (f : BlockForm) (names : Reg → Option PhysReg) (vals : Nat → Word) (s r : State) (n : Nat)
    (t : State) : Prop where
  holds : ∀ j, (h : j < (regsOf f.list).length) → j < n → Holds t (names (regsOf f.list)[j]) (vals j)
  base : f.w = true → f.rn ∉ regsOf f.list → Holds t (bank s.cpsr.m f.rn) (f.newBase s)
  unchanged : Unchanged { s with sfrLog := t.sfrLog } t ((regsOf f.list).map names ++ f.baseWritten s)
  mem : MemoryKept s t
  log : t.sfrLog = r.sfrLog
  draws : t.draws = r.draws

/-- The end of an LDM sets the PC, the CPSR and the hazard at most. -/
theorem BlockForm.Loaded.finish {f : BlockForm} {names : Reg → Option PhysReg} {vals : Nat → Word} {s r t : State}
    {n : Nat} (h : f.Loaded names vals s r n t) (hb : f.broken s = none)
    (hnames : f.w = true → names = bank s.cpsr.m) (x : Word) (p : PSR) (b : Bool) :
    f.LoadDone names vals s r n { t with pc := x, cpsr := p, bankHazard := b } := by
  have hlisted := List.map_subset names (List.take_subset n (regsOf f.list))
  have hwritten := h.written.mono (List.append_subset.mpr ⟨List.subset_append_of_subset_left _ hlisted,
    List.subset_append_right ..⟩)
  refine ⟨h.holds, fun hw hrn => h.base hw ?_, ?_, memoryKept_of_eq (h.written.mem.trans h.mem), h.written.sfrLog,
    h.written.draws⟩
  · rw [hnames hw, List.mem_map]
    rintro ⟨g, hg, heq⟩
    have hne : f.rn ≠ g := fun e => hrn (e ▸ List.mem_of_mem_take hg)
    exact bank_ne (BlockForm.rn_ne_r15 hb) hne heq.symm
  · cases hwritten.unchanged_but_log h.core
    constructor <;> assumption

/-- An LDM without R15 in its list completes (R406, R409). -/
theorem exec_ldm_done {i : Instr} {s r : State} {f : BlockForm} {names : Reg → Option PhysReg} {vals : Nat → Word}
    (h : ldmAny i s = some (f, names)) (hs : sBitAllowed i s = true) (hc : condPassed f.cond s.cpsr = true)
    (hb : f.broken s = none) (h15 : f.list.getLsbD 15 = false) (hpc : s.pc ≠ 0xFFFFFFFC#32)
    (hreads : ReadsTo s.privileged (f.start s) vals s (regsOf f.list).length r) :
    ∃ t, exec i s = .next t ∧ t.pc = s.pc + 4#32 ∧ t.cpsr = s.cpsr ∧ t.bankHazard = ldmHazard i s ∧
      f.LoadDone names vals s r (regsOf f.list).length t := by
  obtain ⟨t, hrun, hloaded⟩ := f.loadsInto_of_readsTo hb (ldmPut_writesBank h) (ldmPut_only i) hreads le_rfl
    fun j hj _ => regsOf_getElem_ne_r15 h15 hj
  rw [List.drop_length] at hrun
  have hfinish : ldmFinish i s none t = advance { t with bankHazard := ldmHazard i s } := by
    obtain ⟨hf, -⟩ | ⟨rfl, -⟩ | ⟨rfl, -⟩ := ldmAny_cases h
    · obtain ⟨-, -, -, hfinish, hnone⟩ := ldmForm_ldmAny hf s
      rw [hfinish, hnone, ← hloaded.bankHazard]
      rfl
    · rw [show ldmHazard (.ldmRestore ..) s = s.bankHazard from rfl, ← hloaded.bankHazard]
      rfl
    · rfl
  refine ⟨_, ?_, ?_, ?_, ?_, hloaded.finish hb (ldmAny_names_of_writeBack h hs) (s.pc + 4#32) s.cpsr (ldmHazard i s)⟩
  · rw [exec_ldmAny h hs hc hb, hrun]
    refine hfinish.trans ((advance_of_ne (by rwa [← hloaded.pc] at hpc)).trans ?_)
    rw [← hloaded.pc, ← hloaded.cpsr]
  all_goals rfl

theorem State.privileged_of_spsr {s : State} {p : PSR} (h : s.spsr = some p) : s.privileged = true := by
  rw [State.privileged, bne_iff_ne]
  exact fun hm => by simp [State.spsr_eq_none_of_user hm] at h

/-- `i` is an LDM that ends in a write of the PC under the CPSR `p`: the one in force (R407), or the one restored
(R408). -/
def LoadsPcUnder (i : Instr) (s : State) (f : BlockForm) (p : PSR) : Prop :=
  ldmForm i = some f ∧ p = s.cpsr ∨ i = .ldmRestore f.cond f.p f.u f.w f.rn f.list ∧ s.spsr = some p

theorem LoadsPcUnder.ldmAny_eq {i : Instr} {s : State} {f : BlockForm} {p : PSR} (h : LoadsPcUnder i s f p) :
    ldmAny i s = some (f, bank s.cpsr.m) ∧ sBitAllowed i s = true := by
  obtain ⟨hf, -⟩ | ⟨rfl, hp⟩ := h
  · obtain ⟨hany, hallowed, -⟩ := ldmForm_ldmAny hf s
    exact ⟨hany, hallowed⟩
  · exact ⟨rfl, by simp [sBitAllowed, State.privileged_of_spsr hp, hp]⟩

theorem LoadsPcUnder.ldmFinish_eq {i : Instr} {s t : State} {f : BlockForm} {p : PSR} (h : LoadsPcUnder i s f p)
    (hcpsr : t.cpsr = s.cpsr) (hspsr : t.spsr = s.spsr) (v : Word) :
    ldmFinish i s (some v) t = writePc v { t with cpsr := p } := by
  obtain ⟨hf, rfl⟩ | ⟨rfl, hp⟩ := h
  · obtain ⟨-, -, -, hfinish, -⟩ := ldmForm_ldmAny hf s
    rw [hfinish, ← hcpsr]
    rfl
  · exact exceptionReturn_of_spsr (hspsr.trans hp) v

theorem writePc_eq (v : Word) (s : State) :
    writePc v s = if s.cpsr.t = true ∨ wordAligned v = true then
      .next { s with pc := if s.cpsr.t then v &&& 0xFFFFFFFE#32 else v } else .refused .unalignedPc := by
  cases ht : s.cpsr.t <;> simp [writePc, ht]

/-- An LDM with R15 in its list loads the PC last, under the CPSR of its end (R407, R408, 40_branch.md R221). -/
theorem exec_ldm_pc {i : Instr} {s r : State} {f : BlockForm} {p : PSR} {vals : Nat → Word} {n : Nat}
    (h : LoadsPcUnder i s f p) (hc : condPassed f.cond s.cpsr = true) (hb : f.broken s = none)
    (h15 : f.list.getLsbD 15 = true) (hn : (regsOf f.list).length = n + 1)
    (hreads : ReadsTo s.privileged (f.start s) vals s (n + 1) r) :
    if p.t = true ∨ wordAligned (vals n) = true then
      ∃ t, exec i s = .next t ∧ t.pc = (if p.t then vals n &&& 0xFFFFFFFE#32 else vals n) ∧ t.cpsr = p ∧
        t.bankHazard = s.bankHazard ∧ f.LoadDone (bank s.cpsr.m) vals s r n t
    else exec i s = .refused .unalignedPc := by
  obtain ⟨hany, hs⟩ := h.ldmAny_eq
  cases hreads with
  | succ hearlier hlast =>
    obtain ⟨t0, hrun, hloaded0⟩ := f.loadsInto_of_readsTo hb (ldmPut_writesBank hany) (ldmPut_only i) hearlier
      (by omega) fun j _ hj => regsOf_ne_r15 (by omega)
    obtain ⟨t, hdone, hloaded⟩ := hloaded0.read hlast
    have hall : f.loadsInto s (ldmPut i) = .done (some (vals n)) t := by
      rw [hrun, List.drop_eq_getElem_cons (by omega), regsOf_getLast h15 hn, ← hn, List.drop_length, loadBlock,
        hloaded0.privileged, hdone]
      rfl
    have hexec : exec i s = writePc (vals n) { t with cpsr := p } := by
      rw [exec_ldmAny hany hs hc hb, hall]
      exact h.ldmFinish_eq hloaded.cpsr hloaded.spsr _
    rw [hexec, writePc_eq]
    split
    · exact ⟨_, rfl, rfl, rfl, hloaded.bankHazard, hloaded.finish hb (fun _ => rfl) _ p t.bankHazard⟩
    · rfl

/-! ### Aborted block transfers (R410, 60_exceptions.md R515) -/

/-- The base register once written back. -/
theorem State.gpr_withNewBase_same {s : State} {rn : Reg} {q : PhysReg} (h : bank s.cpsr.m rn = some q) (w : Bool)
    (b : Word) : (s.withNewBase w rn b).gpr q = if w then b else s.gpr q := by
  cases w with
  | false => rfl
  | true => exact State.gpr_setReg_same h b

/-- The data abort of the instruction that began in the state `s` has been taken: `t` but for its general registers and
memory. -/
structure AbortTaken (s t : State) : Prop where
  pc : t.pc = 0x00000010#32
  link : t.gpr .r14abt = s.pc + 8#32
  saved : t.spsrAbt = s.cpsr
  cpsr : t.cpsr = { s.cpsr with m := 0b10111#5, t := false, i := true }
  spsrFiq : t.spsrFiq = s.spsrFiq
  spsrIrq : t.spsrIrq = s.spsrIrq
  spsrSvc : t.spsrSvc = s.spsrSvc
  spsrUnd : t.spsrUnd = s.spsrUnd

theorem enterException_abortTaken (s : State) : AbortTaken s (enterException .dataAbort (s.pc + 8#32) s) :=
  ⟨rfl, enterException_gpr_link .dataAbort _ s, rfl,
    by simp [ExceptionKind.enteredCpsr, ExceptionKind.masksFiq, ExceptionKind.mode, Mode.bits], rfl, rfl, rfl, rfl⟩

/-- What a data abort saves is what the instruction began with, if it has only made accesses and written registers. -/
theorem AbortTaken.of_regsWritten {s r u t : State} {w : List (Option PhysReg)} (h : AbortTaken u t)
    (hcore : CoreKept s r) (hwritten : RegsWritten r u w) (hpc : u.pc = s.pc) : AbortTaken s t where
  pc := h.pc
  link := by rw [h.link, hpc]
  saved := by rw [h.saved, hwritten.cpsr, hcore.cpsr]
  cpsr := by rw [h.cpsr, hwritten.cpsr, hcore.cpsr]
  spsrFiq := by rw [h.spsrFiq, hwritten.spsrFiq, hcore.spsrFiq]
  spsrIrq := by rw [h.spsrIrq, hwritten.spsrIrq, hcore.spsrIrq]
  spsrSvc := by rw [h.spsrSvc, hwritten.spsrSvc, hcore.spsrSvc]
  spsrUnd := by rw [h.spsrUnd, hwritten.spsrUnd, hcore.spsrUnd]

/-- A data abort writes one general register. -/
theorem enterDataAbort_gpr (l : Word) (s : State) {q : PhysReg} (h : q ≠ .r14abt) :
    (enterException .dataAbort l s).gpr q = s.gpr q :=
  enterException_gpr_other .dataAbort l s h

/-- An LDM whose earlier words are read and whose next word aborts takes the data abort after the base is restored. -/
theorem exec_ldm_aborted {i : Instr} {s r : State} {f : BlockForm} {names : Reg → Option PhysReg} {vals : Nat → Word}
    {k : Nat} (h : ldmAny i s = some (f, names)) (hs : sBitAllowed i s = true) (hc : condPassed f.cond s.cpsr = true)
    (hb : f.broken s = none) (hk : k < (regsOf f.list).length) (hreads : ReadsTo s.privileged (f.start s) vals s k r)
    (habort : s.abortsAccess .read (f.addr s k) .word s.privileged = true) :
    ∃ t, f.Loaded names vals s r k t ∧
      exec i s = dataAbort (t.setReg f.rn (if f.w then f.newBase s else s.readReg 8#32 f.rn)) := by
  obtain ⟨t, hrun, hloaded⟩ := f.loadsInto_of_readsTo hb (ldmPut_writesBank h) (ldmPut_only i) hreads hk.le
    fun j hj hjk => regsOf_ne_r15 (by omega)
  have haborted : loadUnit .word (wordAddr (f.start s) k) s.privileged t = .aborted := loadUnit_aborted.mpr
    ((hloaded.written.abortsAccess ..).trans ((hloaded.core.sameAccess.abortsAccess ..).trans habort))
  have hall : f.loadsInto s (ldmPut i) = .aborted t := by
    rw [hrun, List.drop_eq_getElem_cons hk, loadBlock, hloaded.privileged, haborted]
  refine ⟨t, hloaded, ?_⟩
  rw [exec_ldmAny h hs hc hb, hall]
  rfl

/-! ### Restrictions of block transfers (R401, R404, R409) -/

theorem blockChecked_broken {f : BlockForm} {s : State} {r : Refusal} (h : f.broken s = some r) (body : Outcome) :
    blockChecked f.rn f.list s body = .refused r := by
  have heq : blockChecked f.rn f.list s body = unlessBroken (f.broken s) body := by
    simp only [BlockForm.broken, unlessBroken_cons, unlessBroken_nil]
    rfl
  rw [heq, h, unlessBroken_some]

/-! ### LDM from ordinary memory -/

/-- The words that an LDM loads from ordinary memory. -/
theorem BlockForm.reads_memory {f : BlockForm} {s : State} {n : Nat}
    (h : ∀ k, k < n → s.CanRead .word (f.addr s k) s.privileged) :
    ReadsTo s.privileged (f.start s) (fun k => s.readMem .word (alignDown .word (f.addr s k))) s n s :=
  readsTo_memory h

theorem BlockForm.LoadDone.unchanged_memory {f : BlockForm} {names : Reg → Option PhysReg} {vals : Nat → Word}
    {s t : State} {n : Nat} (h : f.LoadDone names vals s s n t) :
    Unchanged s t ((regsOf f.list).map names ++ f.baseWritten s) := by
  have hbut := h.unchanged
  rwa [h.log] at hbut

theorem BlockForm.length_eq_succ_of_r15 {f : BlockForm} (h15 : f.list.getLsbD 15 = true) :
    ∃ n, (regsOf f.list).length = n + 1 :=
  Nat.exists_eq_add_one.mpr (List.length_pos_of_mem (r15_mem_regsOf.mpr h15))

/-! ### The words of a block do not overlap -/

theorem alignDown_word_toNat (a : Word) : (alignDown .word a).toNat = a.toNat / 4 * 4 := by
  have hshift : a &&& 0xFFFFFFFC#32 = a >>> 2 <<< 2 := by
    apply BitVec.eq_of_getLsbD_eq
    intro i hi
    interval_cases i <;> simp
  simp only [alignDown, hshift, BitVec.toNat_shiftLeft, BitVec.toNat_ushiftRight, Nat.shiftRight_eq_div_pow,
    Nat.shiftLeft_eq]
  omega

theorem touches_word_iff {a : Word} {x : Nat} : touches .word a x ↔ x / 4 = a.toNat / 4 := by
  simp only [touches, alignDown_word_toNat, Size.bytes]
  omega

/-- Two of the sixteen words from an address share no byte. -/
theorem touches_wordAddr_inj {a : Word} {j k x : Nat} (hj : j < 16) (hk : k < 16) (hxj : touches .word (wordAddr a j) x)
    (hxk : touches .word (wordAddr a k) x) : j = k := by
  simp only [touches_word_iff, wordAddr, BitVec.toNat_add, BitVec.toNat_ofNat] at hxj hxk
  omega

/-- A read of bytes that are as they were gives what it gave. -/
theorem State.readMem_of_kept {s t : State} {z : Size} {a : Word} (he : t.bigend = s.bigend)
    (h : ∀ x, touches z a x → t.mem.read x = s.mem.read x) :
    t.readMem z (alignDown z a) = s.readMem z (alignDown z a) := by
  simp only [State.readMem, he, Memory.readBytes_congr z.bytes fun x hlo hhi => h x ⟨hlo, hhi⟩]

theorem lowPart_word (v : Word) : lowPart .word v = v :=
  BitVec.eq_of_toNat_eq ((lowPart_toNat .word v).trans (Nat.mod_eq_of_lt v.isLt))

/-! ### Runs of writes -/

/-- The first `k` writes of the words `vals` from `a`, made in turn from the state `s`, complete or abort, and leave the
state given; the flag tells whether one aborted. -/
inductive StoresTo (priv : Bool) (a : Word) (vals : Nat → Word) (s : State) : Nat → Bool → State → Prop where
  | zero : StoresTo priv a vals s 0 false s
  | done {k : Nat} {ab : Bool} {t u : State} (h : StoresTo priv a vals s k ab t)
      (hwrite : storeUnit .word (wordAddr a k) (vals k) priv t = .done () u) : StoresTo priv a vals s (k + 1) ab u
  | aborted {k : Nat} {ab : Bool} {t : State} (h : StoresTo priv a vals s k ab t)
      (hwrite : storeUnit .word (wordAddr a k) (vals k) priv t = .aborted) : StoresTo priv a vals s (k + 1) true t

theorem StoresTo.core {priv ab : Bool} {a : Word} {vals : Nat → Word} {s t : State} {k : Nat}
    (h : StoresTo priv a vals s k ab t) : CoreKept s t := by
  induction h with
  | zero => exact .rfl
  | done _ hwrite ih => exact ih.trans (storeUnit_core hwrite)
  | aborted _ _ ih => exact ih

/-- A run of block stores whose first writes are made goes on with the rest of its words (R405, R410). -/
theorem storeBlock_of_storesTo {ab : Bool} {a : Word} {vals : Nat → Word} {vs : List Word} {s t : State} {k : Nat}
    (hv : ∀ j, (h : j < vs.length) → vs[j] = vals j) (h : StoresTo s.privileged a vals s k ab t) (hk : k ≤ vs.length) :
    storeBlock vs a false s = storeBlock (vs.drop k) (wordAddr a k) ab t := by
  induction h with
  | zero => simp
  | done h hwrite ih =>
    rw [ih (by omega), List.drop_eq_getElem_cons hk, storeBlock, h.core.sameAccess.privileged, hv _ hk, hwrite,
      wordAddr_succ]
  | aborted h hwrite ih =>
    rw [ih (by omega), List.drop_eq_getElem_cons hk, storeBlock, h.core.sameAccess.privileged, hv _ hk, hwrite,
      wordAddr_succ]

/-! ### Words stored in RAM -/

/-- Every byte of an access is RAM. -/
def AllRam (s : State) (z : Size) (a : Word) : Prop :=
  ∀ x, touches z a x → kindAt s.map x = some .ram

/-- The state `t` once the words `vals` have been written from `a` where no write aborts, `n` in number. -/
structure RamStored (priv : Bool) (a : Word) (vals : Nat → Word) (s : State) (n : Nat) (t : State) : Prop where
  log : t.sfrLog = s.sfrLog
  draws : t.draws = s.draws
  words : ∀ k, k < n → s.abortsAccess .write (wordAddr a k) .word priv = false →
    t.readMem .word (alignDown .word (wordAddr a k)) = vals k
  kept : ∀ x, (∀ k, k < n → s.abortsAccess .write (wordAddr a k) .word priv = false →
    ¬ touches .word (wordAddr a k) x) → t.mem.read x = s.mem.read x

theorem CoreKept.canWrite {s t : State} {z : Size} {a : Word} {priv : Bool} (h : CoreKept s t)
    (hc : s.CanWrite z a priv) : t.CanWrite z a priv where
  not_aborted := (h.sameAccess.abortsAccess ..).trans hc.not_aborted
  not_prefetched := h.pc ▸ hc.not_prefetched
  not_sfr := hc.not_sfr
  mapped := h.map ▸ hc.mapped
  accepted := h.map ▸ hc.accepted

/-- Writes that abort or go to RAM are all made. -/
theorem storesTo_ram {priv : Bool} {a : Word} {s : State} {n : Nat} (vals : Nat → Word) (hn : n ≤ 16)
    (h : ∀ k, k < n → s.abortsAccess .write (wordAddr a k) .word priv = true ∨
      (s.CanWrite .word (wordAddr a k) priv ∧ AllRam s .word (wordAddr a k))) :
    ∃ ab t, StoresTo priv a vals s n ab t ∧ RamStored priv a vals s n t ∧
      (ab = true ↔ ∃ k, k < n ∧ s.abortsAccess .write (wordAddr a k) .word priv = true) := by
  induction n with
  | zero => exact ⟨false, s, .zero, ⟨rfl, rfl, fun k hk => by omega, fun _ _ => rfl⟩, by simp⟩
  | succ n ih =>
    obtain ⟨ab, t, hstores, hstored, hab⟩ := ih (by omega) fun k hk => h k (by omega)
    have hcore := hstores.core
    obtain habort | ⟨hwrite, hram⟩ := h n (by omega)
    · have haborted := storeUnit_aborted (v := vals n) |>.mpr ((hcore.sameAccess.abortsAccess ..).trans habort)
      refine ⟨true, t, .aborted hstores haborted, ⟨hstored.log, hstored.draws, fun k hk hka => ?_, fun x hx => ?_⟩,
        by simpa using ⟨n, by omega, habort⟩⟩
      · obtain rfl | hlt := Nat.eq_or_lt_of_le (Nat.le_of_lt_succ hk)
        · rw [habort] at hka; cases hka
        · exact hstored.words k hlt hka
      · exact hstored.kept x fun k hk => hx k (by omega)
    · have hdone := storeUnit_of_canWrite (v := vals n) (hcore.canWrite hwrite)
      have hram' : AllRam t .word (wordAddr a n) := fun x hx => hcore.map ▸ hram x hx
      have hnot := hwrite.not_aborted
      refine ⟨ab, _, .done hstores hdone, ⟨hstored.log, hstored.draws, fun k hk hka => ?_, fun x hx => ?_⟩, ?_⟩
      · obtain rfl | hlt := Nat.eq_or_lt_of_le (Nat.le_of_lt_succ hk)
        · rw [readMem_writeMem hram', lowPart_word]
        · rw [State.readMem_of_kept (State.writeMem_bigend ..) fun x hx => storeUnit_outside hdone x fun hx' =>
            absurd (touches_wordAddr_inj (by omega) (by omega) hx hx') (by omega)]
          exact hstored.words k hlt hka
      · rw [storeUnit_outside hdone x (hx n (by omega) hnot)]
        exact hstored.kept x fun k hk => hx k (by omega)
      · rw [hab]
        refine ⟨fun ⟨k, hk, hka⟩ => ⟨k, by omega, hka⟩, fun ⟨k, hk, hka⟩ => ⟨k, ?_, hka⟩⟩
        obtain rfl | hlt := Nat.eq_or_lt_of_le (Nat.le_of_lt_succ hk)
        · rw [hnot] at hka; cases hka
        · exact hlt

/-! ### Words stored in special registers -/

/-- The reads and writes of words of special registers, each listed in `rows` (10_state.md R86). -/
structure SfrWords (s : State) (a : Word) (rows : List SfrRow) : Prop where
  window : ∀ k, k < rows.length → inSfrWindow (wordAddr a k) = true
  row : ∀ k, (h : k < rows.length) → sfrRow s.bigend .word (alignDown .word (wordAddr a k)) = some rows[k]

/-- The events of writes of the words `vals` to the registers of `rows`, in order. -/
def sfrWrites (rows : List SfrRow) (vals : Nat → Word) : List SfrEvent :=
  rows.mapIdx fun k r => .write r.name .word (vals k)

theorem sfrWrites_take_succ {rows : List SfrRow} {n : Nat} (hn : n < rows.length) (vals : Nat → Word) :
    sfrWrites (rows.take (n + 1)) vals = sfrWrites (rows.take n) vals ++ [.write rows[n].name .word (vals n)] := by
  simp only [sfrWrites, ← List.take_append_getElem hn, List.mapIdx_concat, List.length_take, Nat.min_eq_left hn.le]

theorem storesTo_sfr {priv : Bool} {a : Word} {s : State} {rows : List SfrRow} (vals : Nat → Word)
    (h : SfrWords s a rows)
    (hw : ∀ k, (h : k < rows.length) → rows[k].writable = true ∧
      s.abortsAccess .write (wordAddr a k) .word priv = false ∧
      overlapsPrefetch s.pc (alignDown .word (wordAddr a k)) 4 = false) :
    ∀ n, n ≤ rows.length →
      StoresTo priv a vals s n false { s with sfrLog := s.sfrLog ++ sfrWrites (rows.take n) vals } := by
  intro n hn
  induction n with
  | zero => simpa [sfrWrites] using StoresTo.zero
  | succ n ih =>
    obtain ⟨hwritable, habort, hprefetch⟩ := hw n hn
    have hprev := ih (by omega)
    have hcore := hprev.core
    have hdone := storeUnit_of_sfr (v := vals n) (h.window n hn) ((hcore.sameAccess.abortsAccess ..).trans habort)
      (hcore.pc ▸ hprefetch) (hcore.bigend ▸ h.row n hn) hwritable
    rw [sfrWrites_take_succ hn, ← List.append_assoc]
    exact .done hprev hdone

/-- The state after `n` reads of the registers of `rows`. -/
def State.sfrReads (s : State) (rows : List SfrRow) (n : Nat) : State :=
  { s with sfrLog := s.sfrLog ++ (rows.take n).map (fun r => .read r.name .word), draws := s.draws + n }

theorem readsTo_sfr {priv : Bool} {a : Word} {s : State} {rows : List SfrRow} (h : SfrWords s a rows)
    (hr : ∀ k, (h : k < rows.length) → rows[k].readable = true ∧
      s.abortsAccess .read (wordAddr a k) .word priv = false) :
    ∀ n, n ≤ rows.length → ReadsTo priv a (fun k => Config.draw 32 (s.draws + k)) s n (s.sfrReads rows n) := by
  intro n hn
  induction n with
  | zero => simpa [State.sfrReads] using ReadsTo.zero
  | succ n ih =>
    obtain ⟨hreadable, habort⟩ := hr n hn
    have hprev := ih (by omega)
    have hcore := hprev.core.1
    have hdone := loadUnit_of_sfr (h.window n hn) ((hcore.sameAccess.abortsAccess ..).trans habort)
      (hcore.bigend ▸ h.row n hn) hreadable
    have hnext : (s.sfrReads rows n).sfrReadDone rows[n] .word = s.sfrReads rows (n + 1) := by
      simp only [State.sfrReads, ← List.take_append_getElem hn, List.map_append, ← List.append_assoc]
      rfl
    refine hnext ▸ .succ hprev (hdone.trans ?_)
    simp only [Size.bytes, State.nextDraw, BitVec.setWidth_eq]
    rfl

/-! ### STM over its run -/

/-- The `k`-th word that an STM stores. -/
def BlockForm.word (f : BlockForm) (s : State) (value : Reg → Word) (k : Nat) : Word :=
  (f.words s value).getD k 0#32

theorem BlockForm.word_eq (f : BlockForm) (s : State) (value : Reg → Word) {k : Nat}
    (h : k < (regsOf f.list).length) :
    f.word s value k = f.stored s k (regsOf f.list)[k] (value (regsOf f.list)[k]) := by
  simp [BlockForm.word, BlockForm.words, h]

/-- An STM with S = 0 seen as one of all STMs. -/
theorem stmForm_stmAny {i : Instr} {f : BlockForm} (h : stmForm i = some f) (s : State) :
    stmAny i s = some (f, s.readReg 12#32) ∧ sBitAllowed i s = true := by
  cases i <;> simp only [stmForm, Option.some.injEq, reduceCtorEq] at h <;> subst h <;> exact ⟨rfl, rfl⟩

section
variable {i : Instr} {s : State} {f : BlockForm} {value : Reg → Word} (h : stmAny i s = some (f, value))
  (hc : condPassed f.cond s.cpsr = true) (hs : sBitAllowed i s = true) (hb : f.broken s = none)
include h hc hs hb

/-- An STM all of whose writes are made ends as its run does. -/
theorem exec_stm_stores {ab : Bool} {t : State}
    (hstores : StoresTo s.privileged (f.start s) (f.word s value) s (regsOf f.list).length ab t) :
    exec i s = finishStoreBlock f s (.done ab t) := by
  have hrun := storeBlock_of_storesTo (vs := f.words s value) (fun _ _ => List.getElem_eq_getD _) hstores (by simp)
  rw [List.drop_of_length_le (by simp)] at hrun
  rw [exec_stmAny h hc hs hb, hrun]
  rfl

/-- An STM into RAM completes (R405). -/
theorem exec_stm_ram (hpc : s.pc ≠ 0xFFFFFFFC#32)
    (hram : ∀ k, k < (regsOf f.list).length → s.CanWrite .word (f.addr s k) s.privileged ∧
      AllRam s .word (f.addr s k)) :
    ∃ t, exec i s = .next t ∧ Advanced s t ∧
      (∀ k, (h : k < (regsOf f.list).length) → t.readMem .word (alignDown .word (f.addr s k)) =
        f.stored s k (regsOf f.list)[k] (value (regsOf f.list)[k])) ∧
      (∀ x, (∀ k, k < (regsOf f.list).length → ¬ touches .word (f.addr s k) x) → t.mem.read x = s.mem.read x) ∧
      (f.w = true → Holds t (bank s.cpsr.m f.rn) (f.newBase s)) ∧ t.cpsr = s.cpsr ∧
      Unchanged s t (if f.w then [bank s.cpsr.m f.rn] else []) := by
  obtain ⟨ab, u, hstores, hstored, hab⟩ := storesTo_ram (f.word s value) (regsOf_length_le f.list)
    fun k hk => .inr (hram k hk)
  have hnone : ab = false := Bool.eq_false_iff.mpr fun hyes => by
    obtain ⟨k, hk, habort⟩ := hab.mp hyes
    have hnot := (hram k hk).1.not_aborted
    exact Bool.false_ne_true (hnot.symm.trans habort)
  subst hnone
  have hcore := hstores.core
  obtain ⟨t, hend, hadv, hheld, hwritten⟩ := finishStoreBlock_done s u (BlockForm.rn_ne_r15 hb) (hcore.pc.symm ▸ hpc)
  rw [hcore.cpsr] at hheld hwritten
  refine ⟨t, (exec_stm_stores h hc hs hb hstores).trans hend, ⟨hadv.pc.trans (by rw [hcore.pc]),
    hadv.bankHazard.trans hcore.bankHazard⟩, fun k hk => ?stored, fun x hx => ?kept, hheld,
    hwritten.cpsr.trans hcore.cpsr, hwritten.unchanged hcore hstored.log⟩
  case stored =>
    rw [State.readMem_congr hwritten.mem hwritten.bigend, ← f.word_eq s value hk]
    exact hstored.words k hk (hram k hk).1.not_aborted
  case kept => rw [hwritten.mem, hstored.kept x fun k hk _ => hx k hk]

end

/-! ### The obligations -/

/-- Settles O42: the words are read from memory as it is, and each register is written once, the base before all. -/
theorem loadMultipleLoadsItsRegisters : Obligations.LoadMultipleLoadsItsRegisters := by
  intro i s f hf hc hb h15 hpc hread
  obtain ⟨hany, hs, -, -, hhazard⟩ := ldmForm_ldmAny hf s
  obtain ⟨t, hend, htpc, hcpsr, hbankHazard, hdone⟩ := exec_ldm_done hany hs hc hb h15 hpc (f.reads_memory hread)
  exact ⟨t, hend, ⟨htpc, hbankHazard.trans hhazard⟩, fun k hk => hdone.holds k hk hk, hdone.base, hcpsr,
    hdone.unchanged_memory, hdone.mem, hdone.draws⟩

/-- Settles O43: R15 comes last, so the write of the PC ends the run. -/
theorem loadMultipleLoadsThePc : Obligations.LoadMultipleLoadsThePc := by
  intro i s f v hf hc hb h15 ht hread hv
  obtain ⟨n, hn⟩ := f.length_eq_succ_of_r15 h15
  have hend := exec_ldm_pc (p := s.cpsr) (.inl ⟨hf, rfl⟩) hc hb h15 hn (f.reads_memory (hn ▸ hread))
  simp only [hn, Nat.add_sub_cancel] at hv
  rw [← hv, ht] at hend
  refine ⟨fun ha => ?aligned, fun ha => ?unaligned⟩
  case aligned =>
    rw [if_pos (.inr ha)] at hend
    obtain ⟨t, hend, hpc, hcpsr, -, hdone⟩ := hend
    exact ⟨t, hend, hpc, hcpsr, fun k hk => hdone.holds k _ (by omega), hdone.base, hdone.unchanged_memory, hdone.mem⟩
  case unaligned => rwa [if_neg (by simp [ha])] at hend

/-- Settles O44: the run is that of any LDM, and the PC is written under the restored CPSR. -/
theorem loadMultipleRestoresTheCpsr : Obligations.LoadMultipleRestoresTheCpsr := by
  rintro c p u w rn list s _ rfl hc h15
  refine ⟨fun saved v hsaved hb hread hv => ?restored, fun hm => ?user, fun hm => ?system⟩
  case restored =>
    obtain ⟨n, hn⟩ := BlockForm.length_eq_succ_of_r15 (f := ⟨c, p, u, w, rn, list⟩) h15
    have hend := exec_ldm_pc (.inr ⟨rfl, hsaved⟩) hc hb h15 hn (BlockForm.reads_memory (hn ▸ hread))
    simp only [show (regsOf list).length = n + 1 from hn, Nat.add_sub_cancel] at hv
    rw [← hv] at hend
    refine ⟨fun ha => ?_, fun ht ha => by simpa [ht, ha] using hend⟩
    rw [if_pos ha] at hend
    obtain ⟨t, hend, hpc, hcpsr, -, hdone⟩ := hend
    exact ⟨t, hend, hpc, hcpsr, fun k hk => hdone.holds k _ (by simp only at hn; omega), hdone.base,
      hdone.unchanged_memory, hdone.mem⟩
  case user =>
    refine (conditionally_pass hc).trans ?_
    simp only [State.privileged, hm]
    rfl
  case system =>
    refine (conditionally_pass hc).trans ?_
    simp only [State.privileged, State.spsr, State.mode, hm]
    rfl

/-- Settles O45: the runs of LDM and STM with the User bank in place of the current mode's. -/
theorem userBankTransfers : Obligations.UserBankTransfers := by
  rintro c p u rn list s f rfl hc hm hb hpc
  have hpriv : s.privileged = true := bne_iff_ne.mpr hm
  refine ⟨fun h15 hread => ?load, fun hram => ?store⟩
  case load =>
    obtain ⟨t, hend, htpc, hcpsr, hhazard, hdone⟩ := exec_ldm_done (i := .ldmUser c p u false rn list)
      rfl (by simp [sBitAllowed, hpriv]) hc hb h15 hpc (BlockForm.reads_memory hread)
    refine ⟨t, hend, htpc, hcpsr, hhazard, fun k hk => hdone.holds k hk hk, ?_, hdone.mem⟩
    simpa [BlockForm.baseWritten] using hdone.unchanged_memory
  case store =>
    obtain ⟨t, hend, hadv, hstored, hkept, -, hcpsr, hunchanged⟩ := exec_stm_ram (i := .stmUser c p u false rn list)
      rfl hc (by simp [sBitAllowed, hpriv]) hb hpc hram
    exact ⟨t, hend, hadv, by simpa [BlockForm.stored] using hstored, hkept, hcpsr, hunchanged⟩

/-- Settles O46: the words of a block share no byte, so each still holds what was stored when the run ends. -/
theorem storeMultipleStoresItsRegisters : Obligations.StoreMultipleStoresItsRegisters := by
  intro i s f hf hc hb hpc hram
  obtain ⟨hany, hs⟩ := stmForm_stmAny hf s
  exact exec_stm_ram hany hc hs hb hpc hram

/-- Settles O47: the S bit and write-back are judged before the other restrictions, and all before the transfer. -/
theorem blockTransferRestrictions : Obligations.BlockTransferRestrictions := by
  rintro c p u w rn list s f rfl hc
  refine ⟨fun r hr => ⟨?current, ?restore, ?user⟩, fun hm => ?userMode, fun hm hw => ?writeBack⟩
  case current =>
    rintro i (hf | hf)
    · exact (exec_ldmForm hf hc).trans (blockChecked_broken hr _)
    · exact (exec_stmForm hf hc).trans (blockChecked_broken hr _)
  case restore =>
    intro hspsr
    obtain ⟨p', hp'⟩ := Option.isSome_iff_exists.mp hspsr
    have hpriv := State.privileged_of_spsr hp'
    refine (conditionally_pass hc).trans ?_
    rw [hpriv, hp']
    exact blockChecked_broken hr _
  case user =>
    rintro hpriv rfl
    refine ⟨(conditionally_pass hc).trans ?_, (conditionally_pass hc).trans ?_⟩
    all_goals
      rw [hpriv]
      exact blockChecked_broken hr _
  case userMode =>
    have hpriv : s.privileged = false := by rw [State.privileged, hm]; rfl
    refine ⟨(conditionally_pass hc).trans ?_, (conditionally_pass hc).trans ?_⟩
    all_goals
      rw [hpriv]
      rfl
  case writeBack =>
    have hpriv : s.privileged = true := bne_iff_ne.mpr hm
    refine ⟨(conditionally_pass hc).trans ?_, (conditionally_pass hc).trans ?_⟩
    all_goals
      rw [hpriv, hw]
      rfl

/-- Settles O48: the run stops at the aborting word with the earlier registers loaded, then the base is restored. -/
theorem loadMultipleDataAbort : Obligations.LoadMultipleDataAbort := by
  intro i s f names k h hc hs hb hk hread habort
  obtain ⟨u, hloaded, hexec⟩ := exec_ldm_aborted h hs hc hb hk (f.reads_memory hread) habort
  generalize (if f.w then f.newBase s else s.readReg 8#32 f.rn) = value at hexec ⊢
  have hm : u.cpsr.m = s.cpsr.m := by rw [hloaded.cpsr]
  have htaken := (enterException_abortTaken (u.setReg f.rn value)).of_regsWritten hloaded.core
    (hloaded.written.trans (u.setReg_written f.rn value)) (by rw [State.setReg_pc, hloaded.pc])
  have hother : ∀ q, q ≠ .r14abt → bank s.cpsr.m f.rn ≠ some q →
      (enterException .dataAbort ((u.setReg f.rn value).pc + 8#32) (u.setReg f.rn value)).gpr q = u.gpr q :=
    fun q hq hbase => (enterDataAbort_gpr _ _ hq).trans (State.gpr_setReg_other u f.rn _ (hm ▸ hbase.symm))
  refine ⟨_, hexec, htaken.pc, htaken.link, htaken.saved, htaken.cpsr, ?mem, fun q hbase hq => ?base,
    fun j q hj hname hq hbase => ?listed, fun q hq hlisted hbase => ?others, htaken.spsrFiq, htaken.spsrIrq,
    htaken.spsrSvc, htaken.spsrUnd⟩
  case mem => rw [enterException_mem, State.setReg_mem, hloaded.written.mem]
  case base => rw [enterDataAbort_gpr _ _ hq, State.gpr_setReg_same (hm ▸ hbase)]
  case listed =>
    rw [hother q hq hbase]
    split
    case isTrue hjk =>
      obtain ⟨q', hname', hval⟩ := hloaded.holds j hj hjk
      obtain rfl : q = q' := Option.some.inj (hname.symm.trans hname')
      exact hval
    case isFalse hjk =>
      exact hloaded.kept hbase (hname ▸ (ldmPut_writesBank h).not_mem_take (Nat.le_of_not_lt hjk) hj)
  case others =>
    rw [hother q hq hbase.symm]
    exact hloaded.kept hbase.symm fun hmem => hlisted (List.map_subset names (List.take_subset k _) hmem)

/-- Settles O49: the run makes the writes that do not abort, the base is written back, and then the abort is taken. -/
theorem storeMultipleDataAbort : Obligations.StoreMultipleDataAbort := by
  intro i s f value h hc hs hb hwords habort
  obtain ⟨ab, u, hstores, hstored, hab⟩ := storesTo_ram (f.word s value) (regsOf_length_le f.list) hwords
  obtain rfl : ab = true := hab.mpr habort
  have hcore := hstores.core
  have hm : u.cpsr.m = s.cpsr.m := by rw [hcore.cpsr]
  have hbase := f.withNewBase_written u (f.newBase s)
  have htaken := (enterException_abortTaken (u.withNewBase f.w f.rn (f.newBase s))).of_regsWritten hcore hbase
    (by rw [State.withNewBase_pc, hcore.pc])
  refine ⟨_, exec_stm_stores h hc hs hb hstores, htaken.pc, htaken.link, htaken.saved, htaken.cpsr,
    fun q hq hne => ?base, fun q hne hq => ?others, fun k hk hka => ?stored, fun x hx => ?kept, htaken.spsrFiq,
    htaken.spsrIrq, htaken.spsrSvc, htaken.spsrUnd⟩
  case base =>
    rw [enterDataAbort_gpr _ _ hne, State.gpr_withNewBase_same (hm ▸ hq), State.gpr_congr hcore.regs,
      State.readReg_eq hq]
  case others =>
    rw [enterDataAbort_gpr _ _ hne, State.gpr_withNewBase_other _ _ _ _ (hm ▸ hq), State.gpr_congr hcore.regs]
  case stored =>
    rw [← f.word_eq s value hk, ← hstored.words k hk hka]
    exact State.readMem_congr (by simp) (by simp) ..
  case kept => rw [enterException_mem, State.withNewBase_mem, hstored.kept x hx]

/-- Settles O54: the same runs, whose reads give the free values in order and whose writes record their events. -/
theorem specialRegisterBlockTransfers : Obligations.SpecialRegisterBlockTransfers := by
  intro i s f rows hc hs hb hlen hwindow
  have hrows : SfrWords s (f.start s) rows := ⟨fun k hk => (hwindow k hk).1, fun k hk => (hwindow k hk).2⟩
  have hreads : (∀ k, (h : k < rows.length) → rows[k].readable = true ∧
      s.abortsAccess .read (f.addr s k) .word s.privileged = false) → ReadsTo s.privileged (f.start s)
        (fun k => Config.draw 32 (s.draws + k)) s (regsOf f.list).length (s.sfrReads rows rows.length) :=
    fun hread => hlen ▸ readsTo_sfr hrows hread _ le_rfl
  refine ⟨fun names h h15 hpc hread => ?load, fun p v h15 h hread hv => ?loadPc, fun value h hpc hwrite => ?store⟩
  case load =>
    obtain ⟨t, hend, htpc, hcpsr, hhazard, hdone⟩ := exec_ldm_done h hs hc hb h15 hpc (hreads hread)
    refine ⟨t, hend, htpc, hcpsr, fun k hk => hdone.holds k hk hk, hdone.base, ?log, hdone.unchanged,
      fun hi => hhazard.trans (ldmHazard_of_ne hi s), ?user, hdone.mem, hdone.draws⟩
    case log => simpa [State.sfrReads] using hdone.log
    case user =>
      rintro ⟨c, p, u, w, rn, list, rfl⟩
      exact hhazard
  case loadPc =>
    have hpcUnder : LoadsPcUnder i s f p := h.imp (fun ⟨hf, _, hp⟩ => ⟨hf, hp⟩) id
    obtain ⟨n, hn⟩ := f.length_eq_succ_of_r15 h15
    have hend := exec_ldm_pc hpcUnder hc hb h15 hn (hn ▸ hreads hread)
    rw [show v = Config.draw 32 (s.draws + n) by rw [hv, hlen, hn, Nat.add_sub_cancel]]
    split
    case isTrue ha =>
      rw [if_pos ha] at hend
      obtain ⟨t, hend, hpc, hcpsr, hhazard, hdone⟩ := hend
      exact ⟨t, hend, hpc, hcpsr, fun k hk => hdone.holds k _ (by omega), hdone.base,
        by simpa [State.sfrReads] using hdone.log, hdone.unchanged, hhazard, hdone.mem, hdone.draws⟩
    case isFalse ha => rwa [if_neg ha] at hend
  case store =>
    have hstores := storesTo_sfr (f.word s value) hrows hwrite rows.length le_rfl
    rw [List.take_length] at hstores
    have hcore := hstores.core
    obtain ⟨t, hend, hadv, hheld, hwritten⟩ := finishStoreBlock_done s _ (BlockForm.rn_ne_r15 hb) (hcore.pc.symm ▸ hpc)
    refine ⟨t, (exec_stm_stores h hc hs hb (hlen ▸ hstores)).trans hend, ⟨hadv.pc, hadv.bankHazard⟩, hwritten.cpsr,
      hheld, ⟨_, hwritten.sfrLog, by simp [sfrWrites], fun k hk hk' => ?event⟩, hwritten.unchanged_but_log hcore,
      memoryKept_of_eq hwritten.mem, hwritten.draws⟩
    case event => simp [sfrWrites, hk', f.word_eq s value hk]

end Sys2Proof.Machine

/-! SUPPORT. Swaps in ordinary memory and swaps that abort, and the software interrupt and its return (46_swap_swi.md R430
to R441): what O13, O16, O50 and O51 rest on. -/

namespace Sys2Proof.Machine

/-! ### Restrictions and aborts of swaps (46_swap_swi.md R431, R433) -/

theorem swapChecked_r15 {rn rd rm : Reg} (h : rn = 15#4 ∨ rd = 15#4 ∨ rm = 15#4) (body : Outcome) :
    swapChecked rn rd rm body = .refused .swapR15 := by
  obtain rfl | rfl | rfl := h <;> simp [swapChecked, refuseIf]

theorem swapChecked_allowed {rn rd rm : Reg} (hn : rn ≠ 15#4) (hd : rd ≠ 15#4) (hm : rm ≠ 15#4) (body : Outcome) :
    swapChecked rn rd rm body = body := by
  simp [swapChecked, refuseIf, hn, hd, hm]

theorem swap_load_aborted {rd : Reg} {load : State → MemResult Word} {store : State → MemResult Unit} {s : State}
    (hl : load s = .aborted) : swap rd load store s = dataAbort s := by
  simp only [swap, hl]

theorem swap_store_aborted {rd : Reg} {load : State → MemResult Word} {store : State → MemResult Unit} {s s1 : State}
    {d : Word} (hl : load s = .done d s1) (hs : store s1 = .aborted) : swap rd load store s = dataAbort s := by
  simp only [swap, hl, hs]

theorem CoreKept.refusesUnaligned {s t : State} (h : CoreKept s t) (a : Word) :
    t.refusesUnaligned a = s.refusesUnaligned a := by
  simp only [State.refusesUnaligned, h.misaligned]

/-- A swap of a unit whose read aborts, or whose read completes and whose write aborts in the state before the read, takes
the data abort in that state. -/
theorem swap_aborted {k : LoadKind} {a : Word} {priv : Bool} {s : State} (hh : k.size = .half → a.getLsbD 0 = false)
    (hu : k.size = .word → s.refusesUnaligned a = false)
    (habort : s.abortsAccess .read a k.size priv = true ∨
      (∃ d s1, loadUnit k.size a priv s = .done d s1) ∧ s.abortsAccess .write a k.size priv = true)
    (rd : Reg) (v : Word) : swap rd (k.load a priv) (storeOf k.size a v priv) s = dataAbort s := by
  obtain hread | ⟨⟨d, s1, hdone⟩, hwrite⟩ := habort
  · exact swap_load_aborted (LoadKind.load_aborted hh hread)
  · have hcore := (loadUnit_core hdone).1
    exact swap_store_aborted (LoadKind.load_done hh hdone)
      (storeOf_aborted hh (fun hw => (hcore.refusesUnaligned a).trans (hu hw))
        ((hcore.sameAccess.abortsAccess ..).trans hwrite) v)

/-- SWP and SWPB so aborted, once the condition passes and no restriction is broken. -/
theorem exec_swap_aborted {c : Cond} {rn rd rm : Reg} {s : State} {byteForm : Bool} {i : Instr} {k : LoadKind}
    (hi : i = if byteForm then .swpb c rn rd rm else .swp c rn rd rm) (hk : k = if byteForm then .byte else .word)
    (hc : condPassed c s.cpsr = true) (hn : rn ≠ 15#4) (hd : rd ≠ 15#4) (hm : rm ≠ 15#4)
    (hu : byteForm = false → s.refusesUnaligned (s.readReg 8#32 rn) = false)
    (habort : s.abortsAccess .read (s.readReg 8#32 rn) k.size s.privileged = true ∨
      (∃ d s1, loadUnit k.size (s.readReg 8#32 rn) s.privileged s = .done d s1) ∧
        s.abortsAccess .write (s.readReg 8#32 rn) k.size s.privileged = true) : exec i s = dataAbort s := by
  obtain ⟨-, hh, hword⟩ := swap_kind (a := s.readReg 8#32 rn) rfl hk hu
  rw [exec_swap hi hk rfl hc hn hd hm hu, swap_aborted hh hword habort]

/-! ### The software interrupt (46_swap_swi.md R440, 60_exceptions.md R511, R514) -/

/-- An entry that does not mask FIQ keeps F. -/
theorem enteredCpsr_of_not_masksFiq {k : ExceptionKind} (h : k.masksFiq = false) (p : PSR) :
    k.enteredCpsr p = { p with m := k.mode.bits, t := false, i := true } := by
  simp [ExceptionKind.enteredCpsr, h]

theorem exec_swi {c : Cond} {s : State} (hc : condPassed c s.cpsr = true) (comment : BitVec 24) :
    exec (.swi c comment) s = .next (enterException .swi (s.pc + 4#32) s) :=
  conditionally_pass hc

/-- MOVS PC,Rm restores the CPSR and jumps to what Rm holds: the exception return of 60_exceptions.md R520 into ARM state. -/
theorem exec_movs_pc {c : Cond} {t : State} {rm : Reg} {p : PSR} (hc : condPassed c t.cpsr = true)
    (hspsr : t.spsr = some p) (hp : p.t = false) (ha : wordAligned (t.readReg 8#32 rm) = true) (rn : Reg) :
    exec (.movShift c true rn 15#4 ⟨0#5, .lsl, rm⟩) t = .next { t with cpsr := p, pc := t.readReg 8#32 rm } :=
  (dataProcessingReturnsFromException _ t ⟨c, .mov, true, 15#4, 0#32, shiftOperand ⟨0#5, .lsl, rm⟩ t, none⟩
    rfl hc rfl rfl rfl).1 p hspsr hp ha

/-! ### The obligations -/

/-- Settles O13. -/
theorem swiEntersSupervisorMode : Obligations.SwiEntersSupervisorMode := fun _ comment s hc =>
  ⟨_, exec_swi hc comment, rfl, enterException_gpr_link .swi _ s, rfl, enteredCpsr_of_not_masksFiq rfl s.cpsr,
    enterException_mem .., fun _ hq => enterException_gpr_other .swi _ s hq, rfl, rfl, rfl, rfl⟩

/-- Settles O16: in the state that O13 describes, R14 is the return address and the SPSR the caller's CPSR, and by O15 the
MOVS moves both back and writes nothing else. -/
theorem swiThenMovsReturnsToTheCaller : Obligations.SwiThenMovsReturnsToTheCaller := by
  intro c comment rn s t hc ht ha hexec
  obtain ⟨t', hexec', -, hlink, hsaved, hcpsr, hmem, hregs, -⟩ := swiEntersSupervisorMode c comment s hc
  obtain rfl : t' = t := Host.Outcome.next.inj (hexec'.symm.trans hexec)
  have hm : t'.cpsr.m = Mode.svc.bits := by rw [hcpsr]; rfl
  have hspsr : t'.spsr = some s.cpsr := by
    rw [State.spsr_of_mode (m := .svc) (by rw [State.mode, hm, Mode.ofBits_bits]), ← hsaved]
    rfl
  have hr14 : t'.readReg 8#32 14#4 = s.pc + 4#32 := by
    rw [State.readReg_eq (p := .r14svc) (by rw [hm]; rfl), hlink]
  have hend := exec_movs_pc (c := .al) rfl hspsr ht (by rw [hr14]; exact wordAligned_add ha rfl) rn
  exact ⟨_, hend, rfl, hr14, hmem, hregs⟩

/-- Settles O50: the read leaves the state as it is, so the write is of the bytes that were read, and then only Rd and the
PC are written. -/
theorem swapExchangesRegisterAndMemory : Obligations.SwapExchangesRegisterAndMemory := by
  intro c rn rd rm s byteForm z k i a hz hk hi haddr hc hn hd hm hpc hread hwrite hu hram
  obtain ⟨rfl, hh, hword⟩ := swap_kind hz hk hu
  have hdone := storeUnit_of_canWrite (v := lowPart k.size (s.readReg 8#32 rm)) hwrite
  obtain ⟨t, hend, hadv, hval, hwritten⟩ := advance_setReg
    (s.writeMem k.size (alignDown k.size a) (lowPart k.size (s.readReg 8#32 rm))) hd
    (k.value a (s.readMem k.size (alignDown k.size a))) hpc
  rw [exec_swap hi hk haddr hc hn hd hm hu,
    swap_done (LoadKind.load_of_canRead hread hh) (storeOf_of_canWrite hwrite hh hword _)]
  refine ⟨t, hend, ⟨hadv.pc, hadv.bankHazard⟩, hval, ?stored, fun x hx => ?outside, hwritten.cpsr,
    hwritten.unchanged (storeUnit_core hdone) rfl⟩
  case stored =>
    rw [State.readMem_congr hwritten.mem hwritten.bigend, readMem_writeMem hram, lowPart_toNat, lowPart_toNat,
      Nat.mod_mod]
  case outside => rw [hwritten.mem, storeUnit_outside hdone x hx]

/-- Settles O51: the restrictions come before the access, and an abort of either half is the abort of the whole. -/
theorem swapAbortsAsAWhole : Obligations.SwapAbortsAsAWhole := by
  intro c rn rd rm s hc
  refine ⟨fun h15 => ⟨?r15Word, ?r15Byte⟩, fun hn hd hm =>
    ⟨fun hu => ?unaligned, fun habort => ?byte, fun hu habort => ?word⟩⟩
  case r15Word => exact (conditionally_pass hc).trans (swapChecked_r15 h15 _)
  case r15Byte => exact (conditionally_pass hc).trans (swapChecked_r15 h15 _)
  case unaligned =>
    exact (conditionally_pass hc).trans ((swapChecked_allowed hn hd hm _).trans (by rw [hu, refuseIf_true]))
  case byte => exact exec_swap_aborted (byteForm := true) rfl rfl hc hn hd hm nofun habort
  case word => exact exec_swap_aborted (byteForm := false) rfl rfl hc hn hd hm (fun _ => hu) habort

end Sys2Proof.Machine

/-! SUPPORT. The words of the trapping instructions, and the undefined instruction trap (47_coprocessor_undefined.md R450 to
R456): what O4 and O14 rest on. -/

namespace Sys2Proof.Machine

/-! ### The words that trap (47_coprocessor_undefined.md R454) -/

/-- The bits that the complete list of R454 asks of a word: those of the Undefined format, of LDC and STC, or of CDP, MCR
and MRC. -/
def TrapPattern (w : Word) : Prop :=
  (w.extractLsb' 25 3 = 0b011#3 ∧ w.getLsbD 4 = true) ∨ w.extractLsb' 25 3 = 0b110#3 ∨ w.extractLsb' 24 4 = 0b1110#4

/-- The word of a trapping instruction has the bits that its format fixes (30_encoding.md R186, R189 to R191). -/
theorem trapPattern_encode {i : Instr} {c : Cond} (h : trapForm i = some c) : TrapPattern (encode i) := by
  cases i <;> simp only [trapForm, reduceCtorEq] at h
  case undefined =>
    obtain ⟨-, hclass, -, h4, -⟩ := undefinedWord_eq_iff.mp rfl
    exact .inl ⟨hclass, h4⟩
  case ldc | stc =>
    obtain ⟨-, hclass, -⟩ := copTransferWord_eq_iff.mp rfl
    exact .inr (.inl hclass)
  case cdp =>
    obtain ⟨-, hcode, -⟩ := copDataWord_eq_iff.mp rfl
    exact .inr (.inr hcode)
  case mcr | mrc =>
    obtain ⟨-, hcode, -⟩ := copRegisterWord_eq_iff.mp rfl
    exact .inr (.inr hcode)

/-- A word with those bits is the word of a trapping instruction of its condition: its other fields are free. -/
theorem exists_trapForm_encode {w : Word} {c : Cond} (hc : w.extractLsb' 28 4 = c.bits) (h : TrapPattern w) :
    ∃ i, encode i = w ∧ i.wf = true ∧ trapForm i = some c := by
  obtain ⟨hclass, h4⟩ | hclass | hcode := h
  · exact ⟨.undefined .., undefinedWord_eq_iff.mpr ⟨hc, hclass, rfl, h4, rfl⟩, rfl, rfl⟩
  · cases hl : w.getLsbD 20 with
    | false =>
      exact ⟨.stc .., copTransferWord_eq_iff.mpr ⟨hc, hclass, rfl, rfl, rfl, rfl, hl, rfl, rfl, rfl, rfl⟩, rfl, rfl⟩
    | true =>
      exact ⟨.ldc .., copTransferWord_eq_iff.mpr ⟨hc, hclass, rfl, rfl, rfl, rfl, hl, rfl, rfl, rfl, rfl⟩, rfl, rfl⟩
  · cases h4 : w.getLsbD 4 with
    | false => exact ⟨.cdp .., copDataWord_eq_iff.mpr ⟨hc, hcode, rfl, rfl, rfl, rfl, rfl, h4, rfl⟩, rfl, rfl⟩
    | true =>
      cases hl : w.getLsbD 20 with
      | false =>
        exact ⟨.mcr .., copRegisterWord_eq_iff.mpr ⟨hc, hcode, rfl, hl, rfl, rfl, rfl, rfl, h4, rfl⟩, rfl, rfl⟩
      | true =>
        exact ⟨.mrc .., copRegisterWord_eq_iff.mpr ⟨hc, hcode, rfl, hl, rfl, rfl, rfl, rfl, h4, rfl⟩, rfl, rfl⟩

/-! ### The undefined instruction trap (60_exceptions.md R513) -/

theorem exec_trapForm {i : Instr} {c : Cond} {s : State} (hi : trapForm i = some c) (hc : condPassed c s.cpsr = true) :
    exec i s = .next (enterException .undefined (s.pc + 4#32) s) :=
  (exec_trapForm_eq hi).trans (conditionally_pass hc)

/-! ### The obligations -/

/-- Settles O4: by the round trips of O1 and O2, a word decodes to a trapping instruction exactly when it is the word of
one. -/
theorem trappingWordsAreExactlyTheListed : Obligations.TrappingWordsAreExactlyTheListed := by
  intro w husable
  constructor
  · rintro ⟨i, c, hdecode, htrap⟩
    obtain ⟨rfl, -⟩ := encodeDecodeRoundTrip w i hdecode
    exact trapPattern_encode htrap
  · intro hpattern
    obtain ⟨c, hc⟩ := Option.ne_none_iff_exists'.mp (mt Cond.ofBits_eq_none.mp husable)
    obtain ⟨i, rfl, hwf, htrap⟩ := exists_trapForm_encode (Cond.bits_of_ofBits hc).symm hpattern
    exact ⟨i, c, decodeEncodeRoundTrip i hwf, htrap⟩

/-- Settles O14: the entry writes R14_und, SPSR_und, the CPSR and the PC, and nothing else is touched. -/
theorem undefinedTrapOfSixInstructions : Obligations.UndefinedTrapOfSixInstructions := fun _ _ s hi hc =>
  ⟨_, exec_trapForm hi hc, rfl, enterException_gpr_link .undefined _ s, rfl, enteredCpsr_of_not_masksFiq rfl s.cpsr,
    enterException_mem .., enterException_sfrLog .., fun _ hq => enterException_gpr_other .undefined _ s hq, rfl, rfl, rfl,
    rfl⟩

end Sys2Proof.Machine

/-! SUPPORT. What a completed instruction can have done to the privileged part of the state (the mode, the masks, T, the
SPSRs, the hazard and the registers of the other banks), said once for the whole instruction set: what O59 and O57 rest
on. -/

namespace Sys2Proof.Machine

/-! ### Outside the bank of the current mode (60_exceptions.md R541, R543) -/

/-- The mode, the masks, T, the SPSRs, the hazard and every register that the current mode does not name are as they
were: the flags, the PC, the registers of the mode and memory may differ. -/
structure PrivilegedKept (s t : State) : Prop where
  mode : t.cpsr.m = s.cpsr.m
  irqMask : t.cpsr.i = s.cpsr.i
  fiqMask : t.cpsr.f = s.cpsr.f
  thumb : t.cpsr.t = s.cpsr.t
  spsrs : ∀ m, t.spsrOf m = s.spsrOf m
  bankHazard : t.bankHazard = s.bankHazard
  banked : ∀ q, q ∉ bankRegs s.mode → t.gpr q = s.gpr q

/-- The same, and the flags are as they were too. -/
structure OwnBankOnly (s t : State) : Prop extends PrivilegedKept s t where
  cpsr : t.cpsr = s.cpsr

theorem PrivilegedKept.trans {s t u : State} (h : PrivilegedKept s t) (h' : PrivilegedKept t u) :
    PrivilegedKept s u where
  mode := h'.mode.trans h.mode
  irqMask := h'.irqMask.trans h.irqMask
  fiqMask := h'.fiqMask.trans h.fiqMask
  thumb := h'.thumb.trans h.thumb
  spsrs m := (h'.spsrs m).trans (h.spsrs m)
  bankHazard := h'.bankHazard.trans h.bankHazard
  banked q hq := (h'.banked q (by rwa [State.mode, h.mode])).trans (h.banked q hq)

theorem OwnBankOnly.trans {s t u : State} (h : OwnBankOnly s t) (h' : OwnBankOnly t u) : OwnBankOnly s u :=
  ⟨h.toPrivilegedKept.trans h'.toPrivilegedKept, h'.cpsr.trans h.cpsr⟩

theorem OwnBankOnly.of_cpsr {s t : State} (hcpsr : t.cpsr = s.cpsr) (hspsrs : ∀ m, t.spsrOf m = s.spsrOf m)
    (hhazard : t.bankHazard = s.bankHazard) (hregs : ∀ q, q ∉ bankRegs s.mode → t.gpr q = s.gpr q) :
    OwnBankOnly s t :=
  ⟨⟨by rw [hcpsr], by rw [hcpsr], by rw [hcpsr], by rw [hcpsr], hspsrs, hhazard, hregs⟩, hcpsr⟩

theorem State.spsrOf_congr {s t : State} (h1 : t.spsrFiq = s.spsrFiq) (h2 : t.spsrIrq = s.spsrIrq)
    (h3 : t.spsrSvc = s.spsrSvc) (h4 : t.spsrAbt = s.spsrAbt) (h5 : t.spsrUnd = s.spsrUnd) (m : Mode) :
    t.spsrOf m = s.spsrOf m := by
  cases m <;> simp [State.spsrOf, h1, h2, h3, h4, h5]

theorem RegsOnly.ownBankOnly {s t : State} (h : RegsOnly s t)
    (hregs : ∀ q, q ∉ bankRegs s.mode → t.gpr q = s.gpr q) : OwnBankOnly s t :=
  .of_cpsr h.cpsr (State.spsrOf_congr h.spsrFiq h.spsrIrq h.spsrSvc h.spsrAbt h.spsrUnd) h.bankHazard hregs

theorem CoreKept.ownBankOnly {s t : State} (h : CoreKept s t) : OwnBankOnly s t :=
  .of_cpsr h.cpsr (State.spsrOf_congr h.spsrFiq h.spsrIrq h.spsrSvc h.spsrAbt h.spsrUnd) h.bankHazard
    fun q _ => State.gpr_congr h.regs q

theorem OwnBankOnly.refl {s : State} : OwnBankOnly s s := CoreKept.rfl.ownBankOnly

/-- A register outside the current mode's bank is named by no register number. -/
theorem ne_bank_of_notMem {s : State} {q : PhysReg} (h : q ∉ bankRegs s.mode) (i : Reg) : some q ≠ bank s.cpsr.m i :=
  fun e => h (List.mem_of_getElem? e.symm)

theorem State.ownBankOnly_setReg (s : State) (i : Reg) (v : Word) : OwnBankOnly s (s.setReg i v) :=
  (s.setReg_only i v).ownBankOnly fun _ hq => s.gpr_setReg_other i v (ne_bank_of_notMem hq i)

theorem State.ownBankOnly_writeBase (s : State) (rn : Reg) (x : Indexed) : OwnBankOnly s (s.writeBase rn x) :=
  (s.writeBase_only rn x).ownBankOnly fun _ hq => s.gpr_writeBase_other rn x (ne_bank_of_notMem hq rn)

theorem State.ownBankOnly_withNewBase (s : State) (w : Bool) (rn : Reg) (b : Word) :
    OwnBankOnly s (s.withNewBase w rn b) :=
  (s.withNewBase_only w rn b).ownBankOnly fun _ hq => s.gpr_withNewBase_other w rn b (ne_bank_of_notMem hq rn)

theorem State.ownBankOnly_drawn (s : State) : OwnBankOnly s s.drawn :=
  .of_cpsr rfl (fun _ => rfl) rfl (fun _ _ => rfl)

theorem State.privilegedKept_setPc (s : State) (x : Word) : PrivilegedKept s { s with pc := x } :=
  ⟨rfl, rfl, rfl, rfl, fun _ => rfl, rfl, fun _ _ => rfl⟩

/-- The flags are not privileged (42_psr_transfer.md R305). -/
theorem State.privilegedKept_setNZCV (s : State) (n z c v : Bool) : PrivilegedKept s (s.setNZCV n z c v) :=
  ⟨rfl, rfl, rfl, rfl, fun _ => rfl, rfl, fun _ _ => rfl⟩

theorem State.privilegedKept_setMulFlags (s : State) (r : Word) : PrivilegedKept s (s.setMulFlags r) :=
  s.ownBankOnly_drawn.toPrivilegedKept.trans (State.privilegedKept_setNZCV ..)

theorem State.privilegedKept_setLongFlags (s : State) (r : BitVec 64) : PrivilegedKept s (s.setLongFlags r) :=
  (s.ownBankOnly_drawn.trans (State.ownBankOnly_drawn _)).toPrivilegedKept.trans (State.privilegedKept_setNZCV ..)

/-- In User mode the registers of the other banks are those that are not the User bank's. -/
theorem bankRegs_of_user {s : State} (h : s.cpsr.m = 0b10000#5) : bankRegs s.mode = userRegs := by
  rw [State.mode, h]
  rfl

theorem PrivilegedKept.spsrs_and_banked {s t : State} (h : PrivilegedKept s t) (huser : s.cpsr.m = 0b10000#5) :
    t.spsrFiq = s.spsrFiq ∧ t.spsrIrq = s.spsrIrq ∧ t.spsrSvc = s.spsrSvc ∧ t.spsrAbt = s.spsrAbt ∧
      t.spsrUnd = s.spsrUnd ∧ ∀ q, q ∉ userRegs → t.gpr q = s.gpr q :=
  ⟨Option.some.inj (h.spsrs .fiq), Option.some.inj (h.spsrs .irq), Option.some.inj (h.spsrs .svc),
    Option.some.inj (h.spsrs .abt), Option.some.inj (h.spsrs .und),
    fun q hq => h.banked q (bankRegs_of_user huser ▸ hq)⟩

/-! ### Accesses and runs of accesses -/

theorem LoadKind.load_ownBankOnly {k : LoadKind} {a d : Word} {priv : Bool} {s t : State}
    (h : k.load a priv s = .done d t) : OwnBankOnly s t := by
  obtain rfl | ⟨_, hunit⟩ := LoadKind.load_done_cases h
  · exact s.ownBankOnly_drawn
  · exact (loadUnit_core hunit).1.ownBankOnly

theorem storeOf_ownBankOnly {z : Size} {a v : Word} {priv : Bool} {s t : State}
    (h : storeOf z a v priv s = .done () t) : OwnBankOnly s t := by
  cases z with
  | byte => exact (storeUnit_core h).ownBankOnly
  | half => exact (storeUnit_core (storeHalf_done h)).ownBankOnly
  | word => exact (storeUnit_core (storeWord_done h)).ownBankOnly

theorem loadBlock_ownBankOnly {regs : List Reg} : ∀ {a : Word} {target : Option Word} {s t : State},
    (∀ x, loadBlock State.setReg regs a target s = .done x t → OwnBankOnly s t) ∧
    (loadBlock State.setReg regs a target s = .aborted t → OwnBankOnly s t) := by
  induction regs with
  | nil => exact fun {_ _ _ _} => ⟨by rintro _ ⟨⟩; exact .refl, nofun⟩
  | cons i rest ih =>
    intro a target s t
    unfold loadBlock
    split
    · next d s1 hdone =>
      have hload := (loadUnit_core hdone).1.ownBankOnly
      split
      · exact ⟨fun x h => hload.trans (ih.1 x h), fun h => hload.trans (ih.2 h)⟩
      · have hput := hload.trans (s1.ownBankOnly_setReg i d)
        exact ⟨fun x h => hput.trans (ih.1 x h), fun h => hput.trans (ih.2 h)⟩
    · exact ⟨nofun, by rintro ⟨⟩; exact .refl⟩
    · exact ⟨nofun, nofun⟩
    · exact ⟨nofun, nofun⟩

theorem storeBlock_ownBankOnly {vs : List Word} {a : Word} {ab x : Bool} {s t : State}
    (h : storeBlock vs a ab s = .done x t) : OwnBankOnly s t :=
  (storeBlock_core _ _ _ _ _ _ h).1.ownBankOnly

/-! ### The four ways in which an instruction completes -/

/-- How the instruction `i` has led from `s` to `t`: nothing privileged changed; BX chose T; an exception was taken once
the mode's own registers and memory were written; or the mode was a privileged one, and only a user-bank LDM touched
the hazard. -/
inductive Completion (i : Instr) (s t : State) : Prop where
  | unprivileged (h : PrivilegedKept s t)
  | exchange (c : Cond) (rn : Reg) (b : Bool) (hi : i = .bx c rn)
      (h : PrivilegedKept { s with cpsr := { s.cpsr with t := b } } t)
  | exception (k : ExceptionKind) (link : Word) (s1 : State) (hk : k = .undefined ∨ k = .swi ∨ k = .dataAbort)
      (h : OwnBankOnly s s1) (ht : t = enterException k link s1)
  | privileged (hp : s.privileged = true)
      (h : t.bankHazard = s.bankHazard ∨ ∃ c p u w rn list, i = .ldmUser c p u w rn list)

section
variable {i : Instr} {s s1 : State}

theorem PrivilegedKept.advance_completes (h : PrivilegedKept s s1) : Keeps (Completion i) s (advance s1) := by
  refine ⟨fun t ht => ?_⟩
  obtain ⟨-, rfl⟩ := advance_next_iff.mp ht
  exact .unprivileged (h.trans (s1.privilegedKept_setPc _))

theorem PrivilegedKept.writePc_kept {x : Word} {t : State} (h : PrivilegedKept s s1) (ht : writePc x s1 = .next t) :
    PrivilegedKept s t := by
  obtain ⟨-, rfl⟩ | ⟨-, -, rfl⟩ := writePc_next ht <;> exact h.trans (s1.privilegedKept_setPc _)

theorem PrivilegedKept.writePc_completes (h : PrivilegedKept s s1) (x : Word) :
    Keeps (Completion i) s (writePc x s1) :=
  ⟨fun _ ht => .unprivileged (h.writePc_kept ht)⟩

theorem OwnBankOnly.exception_completes (h : OwnBankOnly s s1) {k : ExceptionKind}
    (hk : k = .undefined ∨ k = .swi ∨ k = .dataAbort) (link : Word) :
    Keeps (Completion i) s (.next (enterException k link s1)) :=
  keeps_next (.exception k link s1 hk h rfl)

theorem OwnBankOnly.dataAbort_completes (h : OwnBankOnly s s1) : Keeps (Completion i) s (dataAbort s1) :=
  h.exception_completes (.inr (.inr rfl)) _

/-- A mode from which an exception returns is privileged (10_state.md R51). -/
theorem OwnBankOnly.exceptionReturn_completes (h : OwnBankOnly s s1) (x : Word) :
    Keeps (Completion i) s (exceptionReturn x s1) := by
  refine ⟨fun t ht => ?_⟩
  obtain ⟨p, hp, hpc⟩ := exceptionReturn_next ht
  have hpriv : s.privileged = true := by
    simpa only [State.privileged, h.cpsr] using State.privileged_of_spsr hp
  have hhazard : t.bankHazard = s1.bankHazard := (OwnBankOnly.refl.writePc_kept hpc).bankHazard
  exact .privileged hpriv (.inl (hhazard.trans h.bankHazard))

/-! ### The ends of the classes -/

theorem writeResult_completes (sf : Bool) (rd : Reg) (r : AluResult) (s : State) :
    Keeps (Completion i) s (writeResult sf rd r s) := by
  have hreg := (s.ownBankOnly_setReg rd r.val).toPrivilegedKept
  refine ⟨fun t ht => ?_⟩
  obtain ⟨-, -, hend⟩ | ⟨-, -, hend⟩ | ⟨-, -, hend⟩ | ⟨-, -, hend⟩ := writeResult_next ht
  · exact (OwnBankOnly.refl.exceptionReturn_completes _).next t hend
  · exact (OwnBankOnly.refl.writePc_completes _).next t hend
  · exact (hreg.trans (State.privilegedKept_setNZCV ..)).advance_completes.next t hend
  · exact hreg.advance_completes.next t hend

theorem writeProduct_completes (sf : Bool) (rd : Reg) (r : Word) (s : State) :
    Keeps (Completion i) s (writeProduct sf rd r s) := by
  have hreg := (s.ownBankOnly_setReg rd r).toPrivilegedKept
  unfold writeProduct
  split
  · exact (hreg.trans (State.privilegedKept_setMulFlags ..)).advance_completes
  · exact hreg.advance_completes

theorem writeLongProduct_completes (sf : Bool) (rdHi rdLo : Reg) (p : BitVec 64) (s : State) :
    Keeps (Completion i) s (writeLongProduct sf rdHi rdLo p s) := by
  have hregs := ((s.ownBankOnly_setReg rdLo (p.extractLsb' 0 32)).trans
    (State.ownBankOnly_setReg _ rdHi (p.extractLsb' 32 32))).toPrivilegedKept
  unfold writeLongProduct
  split
  · exact (hregs.trans (State.privilegedKept_setLongFlags ..)).advance_completes
  · exact hregs.advance_completes

/-- In User mode MSR writes the flags only (42_psr_transfer.md R305). -/
theorem writeWholeCpsr_completes (v : Word) (s : State) : Keeps (Completion i) s (writeWholeCpsr v s) := by
  refine ⟨fun t ht => ?_⟩
  obtain ⟨hpriv, -, hend⟩ | ⟨-, hend⟩ := writeWholeCpsr_next ht
  · obtain ⟨-, rfl⟩ := advance_next_iff.mp hend
    exact .privileged hpriv (.inl rfl)
  · exact (s.privilegedKept_setNZCV ..).advance_completes.next t hend

theorem changeSpsr_completes (f : PSR → PSR) (s : State) : Keeps (Completion i) s (changeSpsr f s) := by
  refine ⟨fun t ht => ?_⟩
  obtain ⟨p, hp, hend⟩ := changeSpsr_next ht
  obtain ⟨-, rfl⟩ := advance_next_iff.mp hend
  refine .privileged (State.privileged_of_spsr hp) (.inl ?_)
  unfold State.setSpsr
  split
  · exact State.setSpsrOf_bankHazard ..
  · rfl

theorem writePsrFlags_completes (pd : Bool) (v : Word) (s : State) :
    Keeps (Completion i) s (writePsrFlags pd v s) := by
  cases pd with
  | true => exact changeSpsr_completes _ s
  | false => exact (s.privilegedKept_setNZCV ..).advance_completes

theorem finishLoad_completes (k : LoadKind) (priv : Bool) (x : Indexed) (rn rd : Reg) (s : State) :
    Keeps (Completion i) s (finishLoad (k.load x.addr priv s) x rn rd s) := by
  refine ⟨fun t ht => ?_⟩
  obtain ⟨d, s1, hdone, hend⟩ | ⟨-, rfl⟩ := finishLoad_next ht
  · have hbase := (LoadKind.load_ownBankOnly hdone).trans (s1.ownBankOnly_writeBase rn x)
    obtain ⟨-, hpc⟩ | ⟨-, hreg⟩ := hend
    · exact (hbase.writePc_completes _).next t hpc
    · exact (hbase.trans (State.ownBankOnly_setReg ..)).advance_completes.next t hreg
  · exact (s.ownBankOnly_writeBase rn x).dataAbort_completes.next _ rfl

theorem finishStore_completes (z : Size) (v : Word) (priv : Bool) (x : Indexed) (rn : Reg) (s : State) :
    Keeps (Completion i) s (finishStore (storeOf z x.addr v priv s) x rn s) := by
  refine ⟨fun t ht => ?_⟩
  obtain ⟨s1, hdone, hend⟩ | ⟨-, rfl⟩ := finishStore_next ht
  · exact ((storeOf_ownBankOnly hdone).trans (s1.ownBankOnly_writeBase rn x)).advance_completes.next t hend
  · exact (s.ownBankOnly_writeBase rn x).dataAbort_completes.next _ rfl

theorem swap_completes (k : LoadKind) (z : Size) (a v : Word) (priv : Bool) (rd : Reg) (s : State) :
    Keeps (Completion i) s (swap rd (k.load a priv) (storeOf z a v priv) s) := by
  refine ⟨fun t ht => ?_⟩
  obtain ⟨d, s1, s2, hload, hstore, hend⟩ | ⟨-, rfl⟩ := swap_next ht
  · have haccess := (LoadKind.load_ownBankOnly hload).trans (storeOf_ownBankOnly hstore)
    exact (haccess.trans (s2.ownBankOnly_setReg rd d)).advance_completes.next t hend
  · exact OwnBankOnly.refl.dataAbort_completes.next _ rfl

/-! ### Block transfers -/

/-- An LDM in the current mode's bank completes as its write of the PC does. -/
theorem finishLoadBlock_completes (f : BlockForm) {write : Word → State → Outcome}
    (hwrite : ∀ x s1, OwnBankOnly s s1 → Keeps (Completion i) s (write x s1)) :
    Keeps (Completion i) s (finishLoadBlock (pcOrAdvance write) (f.abortedLoad s) (f.loads s)) := by
  have hbase := s.ownBankOnly_withNewBase f.w f.rn (f.newBase s)
  unfold finishLoadBlock
  split
  · next target s1 hrun =>
    have hloads := hbase.trans (loadBlock_ownBankOnly.1 _ hrun)
    cases target with
    | none => exact hloads.advance_completes
    | some x => exact hwrite x s1 hloads
  · next hrun =>
    exact ((hbase.trans (loadBlock_ownBankOnly.2 hrun)).trans (State.ownBankOnly_setReg ..)).dataAbort_completes
  · exact keeps_fault ..
  · exact keeps_refused ..

theorem loadMultiple_completes (f : BlockForm) (s : State) :
    Keeps (Completion i) s (loadMultiple f.p f.u f.w f.rn f.list s) := by
  rw [loadMultiple_eq]
  exact (finishLoadBlock_completes f fun x _ h => h.writePc_completes x).blockChecked ..

theorem execLdmRestore_completes (f : BlockForm) (s : State) :
    Keeps (Completion i) s (execLdmRestore f.cond f.p f.u f.w f.rn f.list s) := by
  rw [execLdmRestore_eq]
  exact ((((finishLoadBlock_completes f fun x _ h => h.exceptionReturn_completes x).blockChecked ..).refuseIf
    ..).refuseIf ..).conditionally OwnBankOnly.refl.advance_completes _

/-- In User mode a user-bank LDM either fails its condition or is refused (45_block_data_transfer.md R404). -/
theorem execLdmUser_completes (c : Cond) (p u w : Bool) (rn : Reg) (list : BitVec 16) (s : State) :
    Keeps (Completion (.ldmUser c p u w rn list)) s (execLdmUser c p u w rn list s) := by
  refine Keeps.conditionally ⟨fun t ht => ?_⟩ OwnBankOnly.refl.advance_completes c
  have hpriv : s.privileged = true := by simpa using (refuseIf_next ht).1
  exact .privileged hpriv (.inr ⟨_, _, _, _, _, _, rfl⟩)

theorem storeMultiple_completes (p u w : Bool) (rn : Reg) (list : BitVec 16) (s : State) :
    Keeps (Completion i) s (storeMultiple p u w rn list s) := by
  refine Keeps.blockChecked ?_ rn list
  split
  case h_1 hrun => exact ((storeBlock_ownBankOnly hrun).trans (State.ownBankOnly_withNewBase ..)).advance_completes
  case h_2 hrun => exact ((storeBlock_ownBankOnly hrun).trans (State.ownBankOnly_withNewBase ..)).dataAbort_completes
  case h_3 => exact keeps_fault ..
  case h_4 => exact keeps_refused ..

theorem execStmUser_completes (c : Cond) (p u w : Bool) (rn : Reg) (list : BitVec 16) (s : State) :
    Keeps (Completion i) s (execStmUser c p u w rn list s) := by
  refine ((Keeps.blockChecked ?_ rn list).refuseIf _ _).refuseIf _ _ |>.conditionally
    OwnBankOnly.refl.advance_completes c
  split
  case h_1 hrun => exact (storeBlock_ownBankOnly hrun).advance_completes
  case h_2 hrun => exact (storeBlock_ownBankOnly hrun).dataAbort_completes
  case h_3 => exact keeps_fault ..
  case h_4 => exact keeps_refused ..

end

/-! ### Every instruction -/

theorem execBx_completes (c : Cond) (rn : Reg) (s : State) : Keeps (Completion (.bx c rn)) s (execBx c rn s) := by
  refine Keeps.conditionally (Keeps.refuseIf ⟨fun t ht => ?_⟩ _ _) OwnBankOnly.refl.advance_completes c
  exact .exchange c rn _ rfl (OwnBankOnly.refl.writePc_kept ht)

theorem execMrs_completes {i : Instr} (c : Cond) (ps : Bool) (rd : Reg) (s : State) :
    Keeps (Completion i) s (execMrs c ps rd s) := by
  refine Keeps.conditionally (Keeps.refuseIf ?_ _ _) OwnBankOnly.refl.advance_completes c
  split
  · exact keeps_refused ..
  · exact (s.ownBankOnly_drawn.trans (State.ownBankOnly_setReg ..)).advance_completes

theorem execMsrReg_completes {i : Instr} (c : Cond) (pd : Bool) (rm : Reg) (s : State) :
    Keeps (Completion i) s (execMsrReg c pd rm s) := by
  refine Keeps.conditionally (Keeps.refuseIf ?_ _ _) OwnBankOnly.refl.advance_completes c
  split
  · exact changeSpsr_completes ..
  · exact writeWholeCpsr_completes ..

/-- Every completed instruction completed in one of the four ways, by the class of the instruction. -/
theorem exec_completes (i : Instr) (s : State) : Keeps (Completion i) s (exec i s) := by
  have hadvance : Keeps (Completion i) s (advance s) := OwnBankOnly.refl.advance_completes
  cases instrClass s i with
  | result h =>
    rw [exec_resultForm_eq h]
    exact ((writeResult_completes ..).unlessBroken _).conditionally hadvance _
  | test h =>
    rw [exec_testForm_eq h]
    exact ((s.privilegedKept_setNZCV ..).advance_completes.unlessBroken _).conditionally hadvance _
  | mul h =>
    rw [exec_mulForm_eq h]
    exact ((writeProduct_completes ..).unlessBroken _).conditionally hadvance _
  | long h =>
    rw [exec_longForm_eq h]
    exact ((writeLongProduct_completes ..).unlessBroken _).conditionally hadvance _
  | load h =>
    rw [exec_loadForm_eq h]
    exact ((finishLoad_completes ..).unlessBroken _).conditionally hadvance _
  | store h =>
    rw [exec_storeForm_eq h]
    exact ((finishStore_completes ..).unlessBroken _).conditionally hadvance _
  | ldm h =>
    rw [exec_ldmForm_eq h]
    exact (loadMultiple_completes ..).conditionally hadvance _
  | stm h =>
    rw [exec_stmForm_eq h]
    exact (storeMultiple_completes ..).conditionally hadvance _
  | ldmRestore c p u w rn list => exact execLdmRestore_completes ⟨c, p, u, w, rn, list⟩ s
  | ldmUser => exact execLdmUser_completes ..
  | stmUser => exact execStmUser_completes ..
  | swp c => exact (((swap_completes .word .word ..).refuseIf _ _).refuseIf _ _).conditionally hadvance c
  | swpb c => exact ((swap_completes .byte .byte ..).refuseIf _ _).conditionally hadvance c
  | branchExchange => exact execBx_completes ..
  | branch c => exact (keeps_next (.unprivileged (s.privilegedKept_setPc _))).conditionally hadvance c
  | branchLink c =>
    have hlink := (s.ownBankOnly_setReg 14#4 (s.pc + 4#32)).toPrivilegedKept
    exact (keeps_next (.unprivileged (hlink.trans (State.privilegedKept_setPc ..)))).conditionally hadvance c
  | mrs => exact execMrs_completes ..
  | msrReg => exact execMsrReg_completes ..
  | msrFlagsReg c => exact ((writePsrFlags_completes ..).refuseIf _ _).conditionally hadvance c
  | msrFlagsImm c => exact (writePsrFlags_completes ..).conditionally hadvance c
  | trap h =>
    rw [exec_trapForm_eq h]
    exact (OwnBankOnly.refl.exception_completes (.inl rfl) _).conditionally hadvance _
  | swi c => exact (OwnBankOnly.refl.exception_completes (.inr (.inl rfl)) _).conditionally hadvance c

/-! ### The hazard after an instruction (70_reset_and_hazards.md R621) -/

/-- Only a user-bank LDM makes the hazard pending. -/
theorem Completion.bankHazard {i : Instr} {s t : State} (h : Completion i s t) (hs : s.bankHazard = false)
    (hi : ∀ c p u w rn list, i ≠ .ldmUser c p u w rn list) : t.bankHazard = false := by
  cases h with
  | unprivileged h => exact h.bankHazard.trans hs
  | exchange c rn b _ h => exact h.bankHazard.trans hs
  | exception k link s1 _ _ ht => rw [ht, enterException_bankHazard]
  | privileged _ h =>
    obtain h | ⟨c, p, u, w, rn, list, hldm⟩ := h
    · exact h.trans hs
    · exact absurd hldm (hi c p u w rn list)

/-- What the hazard is judged by, as a proposition. -/
theorem hazardous_iff {i : Instr} {s : State} : hazardous i s = true ↔
    s.bankHazard = true ∧ condPassed i.cond s.cpsr = true ∧ ∃ r ∈ i.reads, bank s.cpsr.m r ≠ userBank r := by
  simp [hazardous, isBanked, and_assoc]

/-! ### The obligations -/

/-- Settles O59: of the four ways in which an instruction completes, the one of a privileged mode is not User mode's. -/
theorem userModeIsConfined : Obligations.UserModeIsConfined := by
  intro i s t huser ht
  have hbank : bankRegs s.mode = userRegs := bankRegs_of_user huser
  cases (exec_completes i s).next t ht with
  | unprivileged h => exact .inl ⟨h.mode, h.irqMask, h.fiqMask, .inl h.thumb, h.spsrs_and_banked huser⟩
  | exchange c rn b hi h => exact .inl ⟨h.mode, h.irqMask, h.fiqMask, .inr ⟨c, rn, hi⟩, h.spsrs_and_banked huser⟩
  | exception k link s1 hk h ht =>
    subst ht
    exact .inr ⟨k, hk, enterException_pc .., (enterException_cpsr ..).trans (by rw [h.cpsr]),
      (enterException_spsrOf ..).trans (by rw [h.cpsr]),
      fun m hm => (enterException_spsrOf_other k link s1 hm).trans (h.spsrs m),
      fun q hq hlink => (enterException_gpr_other k link s1 hlink).trans (h.banked q (hbank ▸ hq))⟩
  | privileged hp => exact absurd huser (State.privileged_iff.mp hp)

/-- Settles O57: the hazard is judged on the reads, and only a user-bank LDM makes it pending again. -/
theorem bankedReadAfterUserBankLoad : Obligations.BankedReadAfterUserBankLoad := by
  intro i s hpending
  refine ⟨fun hc hread => if_pos (hazardous_iff.mpr ⟨hpending, hc, hread⟩), fun hnone => if_neg fun hazard => ?_,
    fun t ht hi => ?_⟩
  · obtain ⟨-, hc, r, hr, hbanked⟩ := hazardous_iff.mp hazard
    obtain hfail | hown := hnone
    · exact absurd (hfail.symm.trans hc) (by decide)
    · exact hbanked (hown r hr)
  · unfold runInstr at ht
    split at ht
    · cases ht
    · exact ((exec_completes i _).next t ht).bankHazard rfl hi

end Sys2Proof.Machine

/-! SUPPORT. The order of a step (60_exceptions.md R527): what comes before the fetch, and what a fetch gives: what O6,
O9, O10, O11 and O12 rest on. -/

namespace Sys2Proof.Machine

/-! ### Before the fetch (60_exceptions.md R512, R517, R518, R527) -/

theorem step_of_preempt {s : State} {o : Outcome} (h : preempt s.boundary s.nextBoundary = some o) : step s = o := by
  simp only [step, runStep, h]

theorem step_of_no_preempt {s : State} (h : preempt s.boundary s.nextBoundary = none) :
    step s = runFetched s.nextBoundary := by
  simp only [step, runStep, h]

theorem preempt_reset {b : Boundary} {pins : Pins} (h : b.reset = some pins) (s : State) :
    preempt b s = some (.next (resetEntry pins s)) := by
  simp only [preempt, h]

section
variable {b : Boundary} {s : State} (hreset : b.reset = none)
include hreset

theorem preempt_illegalMode (hmode : s.mode = none) : preempt b s = some (.fault .illegalMode) := by
  simp only [preempt, hreset, hmode, Option.isNone_none, if_true]

variable (hmode : s.mode.isSome = true)
include hmode

theorem preempt_thumbState (ht : s.cpsr.t = true) : preempt b s = some (.refused .thumbState) := by
  simp only [preempt, hreset, Option.isNone_eq_false_iff.mpr hmode, ht, if_true, Bool.false_eq_true, if_false]

/-- In ARM state only the interrupts remain, FIQ first. -/
theorem preempt_arm (ht : s.cpsr.t = false) : preempt b s =
    if b.fiq && !s.cpsr.f then some (interrupt .fiq s)
    else if b.irq && !s.cpsr.i then some (interrupt .irq s) else none := by
  simp only [preempt, hreset, Option.isNone_eq_false_iff.mpr hmode, ht, Bool.false_eq_true, if_false]

end

section
variable {s : State} (hreset : s.boundary.reset = none) (hmode : s.mode.isSome = true) (ht : s.cpsr.t = false)
include hreset hmode ht

theorem step_fiq (hfiq : s.boundary.fiq = true) (hf : s.cpsr.f = false) :
    step s = .next (enterException .fiq (s.pc + 4#32) s.nextBoundary) :=
  step_of_preempt ((preempt_arm (s := s.nextBoundary) hreset hmode ht).trans (if_pos (by simp [hfiq, hf])))

variable (hnofiq : (s.boundary.fiq && !s.cpsr.f) = false)
include hnofiq

theorem step_irq (hirq : s.boundary.irq = true) (hi : s.cpsr.i = false) :
    step s = .next (enterException .irq (s.pc + 4#32) s.nextBoundary) :=
  step_of_preempt ((preempt_arm (s := s.nextBoundary) hreset hmode ht).trans (by simp [hnofiq, hirq, hi, interrupt]))

/-- With nothing to take at the boundary the step is a fetch. -/
theorem step_fetch (hnoirq : (s.boundary.irq && !s.cpsr.i) = false) : step s = runFetched s.nextBoundary :=
  step_of_no_preempt ((preempt_arm (s := s.nextBoundary) hreset hmode ht).trans (by simp [hnofiq, hnoirq]))

end

/-! ### The fetch (60_exceptions.md R516, R527) -/

section
variable {s : State} (haligned : wordAligned s.pc = true)
include haligned

theorem runFetched_aborted (h : s.abortsAccess .fetch s.pc .word s.privileged = true) :
    runFetched s = .next (enterException .prefetchAbort (s.pc + 4#32) s) := by
  have hfetch : fetchWord s = .aborted := by simp [fetchWord, haligned, h]
  simp only [runFetched, hfetch, prefetchAbort]

theorem runFetched_word (habort : s.abortsAccess .fetch s.pc .word s.privileged = false)
    (hsfr : inSfrWindow s.pc = false) (hmapped : firstUnmapped s.map s.pc.toNat 4 = none) :
    runFetched s = runWord (s.readMem .word s.pc) s := by
  have hfetch : fetchWord s = .word (s.readMem .word s.pc) := by simp [fetchWord, haligned, habort, hsfr, hmapped]
  simp only [runFetched, hfetch]

end

/-- A decodable word without the hazard of R621 runs its instruction with the hazard discharged. -/
theorem runWord_ok {w : Word} {i : Instr} {s : State} (hdecode : decode w = .ok i) (hhazard : hazardous i s = false) :
    runWord w s = exec i { s with bankHazard := false } := by
  simp [runWord, runInstr, hdecode, hhazard]

/-! ### The obligations -/

/-- Settles O10: the entry writes the link register, one SPSR, the CPSR and the PC. -/
theorem exceptionEntrySequence : Obligations.ExceptionEntrySequence := by
  intro k link s hk
  have hmasks : k.masksFiq = (k == .fiq) := by
    cases k with
    | reset => exact absurd rfl hk
    | undefined | swi | prefetchAbort | dataAbort | irq | fiq => rfl
  exact ⟨enterException_gpr_link .., enterException_spsrOf .., rfl, rfl, rfl, rfl, congrArg (s.cpsr.f || ·) hmasks,
    rfl, rfl, rfl, rfl, enterException_mem .., fun _ => enterException_gpr_other k link s,
    fun _ => enterException_spsrOf_other k link s⟩

/-- Settles O11: each step is an exception entry with the address of the instruction not executed plus 4. -/
theorem interruptsAreTakenAtTheBoundary : Obligations.InterruptsAreTakenAtTheBoundary := by
  intro s hreset hmode ht
  refine ⟨fun hfiq hf => ⟨_, step_fiq hreset hmode ht hfiq hf, rfl, enterException_gpr_link .fiq .., rfl, ?_,
      enterException_mem .., fun _ => enterException_gpr_other .fiq _ s.nextBoundary, rfl, rfl, rfl, rfl⟩,
    fun hnofiq hirq hi => ⟨_, step_irq hreset hmode ht hnofiq hirq hi, rfl, enterException_gpr_link .irq .., rfl,
      enteredCpsr_of_not_masksFiq rfl s.cpsr, enterException_mem ..,
      fun _ => enterException_gpr_other .irq _ s.nextBoundary, rfl, rfl, rfl, rfl⟩⟩
  simp [ExceptionKind.enteredCpsr, ExceptionKind.mode, Mode.bits, ExceptionKind.masksFiq]

/-- Settles O12: the aborted fetch is a prefetch abort entry, whatever the word. -/
theorem prefetchAbortReplacesTheInstruction : Obligations.PrefetchAbortReplacesTheInstruction :=
  fun s hreset hmode ht hnofiq hnoirq haligned habort =>
    ⟨_, (step_fetch hreset hmode ht hnofiq hnoirq).trans (runFetched_aborted haligned habort), rfl,
      enterException_gpr_link .prefetchAbort .., rfl, enteredCpsr_of_not_masksFiq rfl s.cpsr, enterException_mem ..,
      fun _ => enterException_gpr_other .prefetchAbort _ s.nextBoundary, rfl, rfl, rfl, rfl⟩

/-- Settles O6: the boundary takes nothing, the fetch gives the word, and the word decodes. -/
theorem stepRunsTheDecodedInstruction : Obligations.StepRunsTheDecodedInstruction := by
  intro s i hreset hmode ht hnofiq hnoirq haligned habort hsfr hmapped hdecode hhazard
  calc step s = runFetched s.nextBoundary := step_fetch hreset hmode ht hnofiq hnoirq
    _ = runWord (s.readMem .word s.pc) s.nextBoundary :=
      runFetched_word (s := s.nextBoundary) haligned habort hsfr hmapped
    _ = exec i { s.nextBoundary with bankHazard := false } := runWord_ok hdecode hhazard

/-- Settles O9: the three tests that come before the interrupts, in their order. -/
theorem resetStuckAndThumbComeFirst : Obligations.ResetStuckAndThumbComeFirst := by
  intro s
  refine ⟨fun pins hpins => ⟨resetEntry pins s.nextBoundary, step_of_preempt (preempt_reset hpins _), ?_⟩,
    fun hreset hmode => step_of_preempt (preempt_illegalMode hreset hmode),
    fun hreset hmode ht => step_of_preempt (preempt_thumbState hreset hmode ht)⟩
  simp [resetEntry, resetCpsr, ExceptionKind.vector, Mode.bits]

end Sys2Proof.Machine

/-! SUPPORT. Two runs of one instruction, from states that differ in one general register at most: as long as that
register is not read, every shared operation ends alike and leaves states that differ in that register at most. What O58
rests on. -/

namespace Sys2Proof.Machine

/-! ### STM over its run of stores -/

theorem storeMultiple_eq (f : BlockForm) (s : State) :
    storeMultiple f.p f.u f.w f.rn f.list s = blockChecked f.rn f.list s
      (finishStoreBlock f s (storeBlock (f.words s (s.readReg 12#32)) (f.start s) false s)) := by
  rw [← storedWords_eq]
  refine congrArg (blockChecked f.rn f.list s) ?_
  unfold BlockForm.start BlockForm.newBase
  split <;> simp only [*] <;> rfl

/-- A user-bank STM that is not refused for its W bit `w` is an STM without write-back of the User bank's registers. -/
theorem execStmUser_eq {f : BlockForm} (hf : f.w = false) (w : Bool) (s : State) :
    execStmUser f.cond f.p f.u w f.rn f.list s = conditionally f.cond s (refuseIf (!s.privileged) .sBitUser
      (refuseIf w .userBankWriteBack (blockChecked f.rn f.list s
        (finishStoreBlock f s (storeBlock (f.words s s.readUserReg) (f.start s) false s))))) := by
  rw [BlockForm.words_no_writeBack hf]
  refine congrArg
    (fun body => conditionally f.cond s (refuseIf _ _ (refuseIf _ _ (blockChecked f.rn f.list s body)))) ?_
  unfold BlockForm.start
  split <;> simp only [*, finishStoreBlock, State.withNewBase, Bool.false_eq_true, if_false]

/-! ### States that differ in one register -/

/-- The second state is the first, or the first with the value `v` in the register `q`. -/
inductive Twin (q : PhysReg) (v : Word) (s : State) : State → Prop where
  | same : Twin q v s s
  | other : Twin q v s (s.setGpr q v)

theorem State.setGpr_setGpr_same (s : State) (q : PhysReg) (v x : Word) :
    (s.setGpr q v).setGpr q x = s.setGpr q x := by
  simp [State.setGpr]

theorem State.setGpr_comm (s : State) {p q : PhysReg} (h : p ≠ q) (v x : Word) :
    (s.setGpr q v).setGpr p x = (s.setGpr p x).setGpr q v := by
  simp only [State.setGpr, Vector.set_comm _ _ (PhysReg.idx_val_ne h)]

section
variable {q : PhysReg} {v : Word} {s s' : State}

/-- An update that does not look at the registers keeps twins. -/
theorem Twin.map (h : Twin q v s s') {g : State → State} (hg : ∀ s, g (s.setGpr q v) = (g s).setGpr q v) :
    Twin q v (g s) (g s') := by
  cases h with
  | same => exact .same
  | other => exact hg s ▸ .other

/-- A write to the register in which twins differ makes them equal. -/
theorem Twin.setGpr (h : Twin q v s s') (p : PhysReg) (x : Word) : Twin q v (s.setGpr p x) (s'.setGpr p x) := by
  by_cases hp : p = q
  · subst hp
    cases h with
    | same => exact .same
    | other => exact (State.setGpr_setGpr_same ..).symm ▸ .same
  · exact h.map (g := (·.setGpr p x)) fun s => s.setGpr_comm hp v x

theorem Twin.cpsr (h : Twin q v s s') : s'.cpsr = s.cpsr := by cases h <;> rfl
theorem Twin.pc (h : Twin q v s s') : s'.pc = s.pc := by cases h <;> rfl
theorem Twin.spsr (h : Twin q v s s') : s'.spsr = s.spsr := by cases h <;> rfl
theorem Twin.sourcePsr (h : Twin q v s s') (ps : Bool) : sourcePsr ps s' = sourcePsr ps s := by cases h <;> rfl
theorem Twin.nextDraw (h : Twin q v s s') (w : Nat) : s'.nextDraw w = s.nextDraw w := by cases h <;> rfl
theorem Twin.privileged (h : Twin q v s s') : s'.privileged = s.privileged := by cases h <;> rfl
theorem Twin.memoryMap (h : Twin q v s s') : s'.map = s.map := by cases h <;> rfl
theorem Twin.bigend (h : Twin q v s s') : s'.bigend = s.bigend := by cases h <;> rfl
theorem Twin.hasBank (h : Twin q v s s') : s'.hasBank = s.hasBank := by cases h <;> rfl
theorem Twin.refusesUnaligned (h : Twin q v s s') (a : Word) : s'.refusesUnaligned a = s.refusesUnaligned a := by
  cases h <;> rfl

theorem Twin.abortsAccess (h : Twin q v s s') (k : AccessKind) (a : Word) (z : Size) (priv : Bool) :
    s'.abortsAccess k a z priv = s.abortsAccess k a z priv := by
  cases h <;> rfl

theorem Twin.setReg (h : Twin q v s s') (i : Reg) (x : Word) : Twin q v (s.setReg i x) (s'.setReg i x) := by
  simp only [State.setReg, h.cpsr]
  split
  · exact h.setGpr _ x
  · exact h

theorem Twin.setUserReg (h : Twin q v s s') (i : Reg) (x : Word) : Twin q v (s.setUserReg i x) (s'.setUserReg i x) := by
  unfold State.setUserReg
  split
  · exact h.setGpr _ x
  · exact h

theorem Twin.writeBase (h : Twin q v s s') (rn : Reg) (x : Indexed) :
    Twin q v (s.writeBase rn x) (s'.writeBase rn x) := by
  unfold State.writeBase
  split
  · exact h.setReg rn _
  · exact h

theorem Twin.withNewBase (h : Twin q v s s') (w : Bool) (rn : Reg) (b : Word) :
    Twin q v (s.withNewBase w rn b) (s'.withNewBase w rn b) := by
  unfold State.withNewBase
  split
  · exact h.setReg rn b
  · exact h

theorem Twin.setPc (h : Twin q v s s') (x : Word) : Twin q v { s with pc := x } { s' with pc := x } :=
  h.map (g := fun s => { s with pc := x }) fun _ => rfl

theorem Twin.setCpsr (h : Twin q v s s') (x : PSR) : Twin q v { s with cpsr := x } { s' with cpsr := x } :=
  h.map (g := fun s => { s with cpsr := x }) fun _ => rfl

theorem Twin.setBankHazard (h : Twin q v s s') (x : Bool) :
    Twin q v { s with bankHazard := x } { s' with bankHazard := x } :=
  h.map (g := fun s => { s with bankHazard := x }) fun _ => rfl

theorem Twin.drawn (h : Twin q v s s') : Twin q v s.drawn s'.drawn := h.map fun _ => rfl

theorem Twin.setFlagsOf (h : Twin q v s s') (x : Word) :
    Twin q v { s with cpsr := s.cpsr.withFlagsOf x } { s' with cpsr := s'.cpsr.withFlagsOf x } :=
  h.map (g := fun s => { s with cpsr := s.cpsr.withFlagsOf x }) fun _ => rfl

theorem Twin.setThumb (h : Twin q v s s') (b : Bool) :
    Twin q v { s with cpsr := { s.cpsr with t := b } } { s' with cpsr := { s'.cpsr with t := b } } :=
  h.map (g := fun s => { s with cpsr := { s.cpsr with t := b } }) fun _ => rfl

theorem Twin.setAluFlags (h : Twin q v s s') (r : AluResult) : Twin q v (s.setAluFlags r) (s'.setAluFlags r) :=
  h.map (g := (·.setAluFlags r)) fun _ => rfl

theorem Twin.setMulFlags (h : Twin q v s s') (r : Word) : Twin q v (s.setMulFlags r) (s'.setMulFlags r) :=
  h.map (g := (·.setMulFlags r)) fun _ => rfl

theorem Twin.setLongFlags (h : Twin q v s s') (r : BitVec 64) : Twin q v (s.setLongFlags r) (s'.setLongFlags r) :=
  h.map (g := (·.setLongFlags r)) fun _ => rfl

theorem State.setSpsrOf_setGpr (s : State) (m : Mode) (p : PSR) (q : PhysReg) (v : Word) :
    (s.setGpr q v).setSpsrOf m p = (s.setSpsrOf m p).setGpr q v := by
  cases m <;> rfl

theorem Twin.setSpsrOf (h : Twin q v s s') (m : Mode) (p : PSR) : Twin q v (s.setSpsrOf m p) (s'.setSpsrOf m p) :=
  h.map (g := (·.setSpsrOf m p)) fun s => s.setSpsrOf_setGpr m p q v

theorem Twin.setSpsr (h : Twin q v s s') (p : PSR) : Twin q v (s.setSpsr p) (s'.setSpsr p) := by
  simp only [State.setSpsr, State.mode, h.cpsr]
  split
  · exact h.setSpsrOf _ p
  · exact h

theorem Twin.enterException (h : Twin q v s s') (k : ExceptionKind) (link : Word) :
    Twin q v (enterException k link s) (enterException k link s') := by
  have hspsr := (h.setGpr k.mode.linkReg link).setSpsrOf k.mode s.cpsr
  simp only [Machine.enterException, h.cpsr]
  exact hspsr.map (g := fun t => { t with cpsr := k.enteredCpsr s.cpsr, pc := k.vector, bankHazard := false })
    fun _ => rfl

/-! ### Outcomes and accesses that end alike -/

/-- Two outcomes with one reason to stop, or with next states that are twins. -/
inductive OutcomeTwin (q : PhysReg) (v : Word) : Outcome → Outcome → Prop where
  | next {s s' : State} (h : Twin q v s s') : OutcomeTwin q v (.next s) (.next s')
  | stop (x : Stop) : OutcomeTwin q v x.outcome x.outcome

/-- Two accesses with one value and twins after it, both aborted, or with one reason to stop. -/
inductive AccessTwin (q : PhysReg) (v : Word) {α : Type} : MemResult α → MemResult α → Prop where
  | done (a : α) {s s' : State} (h : Twin q v s s') : AccessTwin q v (.done a s) (.done a s')
  | aborted : AccessTwin q v .aborted .aborted
  | stop (x : Stop) : AccessTwin q v x.access x.access

theorem OutcomeTwin.refused (r : Refusal) : OutcomeTwin q v (.refused r) (.refused r) := .stop (.refused r)

section
variable {o o' : Outcome} (ho : OutcomeTwin q v o o')
include ho

theorem OutcomeTwin.of_stop {x : Stop} (h : o = x.outcome) : o' = x.outcome := by
  cases ho with
  | next => cases x <;> cases h
  | stop => exact h

theorem OutcomeTwin.of_next {t : State} (h : o = .next t) : o' = .next t ∨ o' = .next (t.setGpr q v) := by
  cases ho with
  | next htwin =>
    cases h
    cases htwin with
    | same => exact .inl rfl
    | other => exact .inr rfl
  | stop x => cases x <;> cases h

theorem OutcomeTwin.refuseIf (b : Bool) (r : Refusal) : OutcomeTwin q v (refuseIf b r o) (refuseIf b r o') := by
  cases b with
  | true => exact .refused r
  | false => exact ho

theorem OutcomeTwin.unlessBroken (b : Option Refusal) : OutcomeTwin q v (unlessBroken b o) (unlessBroken b o') := by
  cases b with
  | none => exact ho
  | some r => exact .refused r

theorem OutcomeTwin.blockChecked (h : Twin q v s s') {rn : Reg} (hrn : s'.readReg 8#32 rn = s.readReg 8#32 rn)
    (list : BitVec 16) : OutcomeTwin q v (blockChecked rn list s o) (blockChecked rn list s' o') := by
  simp only [Machine.blockChecked, hrn, h.refusesUnaligned]
  exact ((ho.refuseIf _ _).refuseIf _ _).refuseIf _ _

end

theorem Twin.advance (h : Twin q v s s') : OutcomeTwin q v (advance s) (advance s') := by
  simp only [Machine.advance, h.pc]
  split
  · exact .refused _
  · exact .next (h.setPc _)

theorem OutcomeTwin.conditionally {o o' : Outcome} (ho : OutcomeTwin q v o o') (h : Twin q v s s') (c : Cond) :
    OutcomeTwin q v (conditionally c s o) (conditionally c s' o') := by
  simp only [Machine.conditionally, h.cpsr]
  split
  · exact ho
  · exact h.advance

theorem Twin.writePc (h : Twin q v s s') (x : Word) : OutcomeTwin q v (writePc x s) (writePc x s') := by
  simp only [Machine.writePc, congrArg PSR.t h.cpsr]
  split
  · exact .next (h.setPc _)
  split
  · exact .next (h.setPc _)
  · exact .refused _

theorem Twin.exceptionReturn (h : Twin q v s s') (x : Word) :
    OutcomeTwin q v (exceptionReturn x s) (exceptionReturn x s') := by
  simp only [Machine.exceptionReturn, h.spsr]
  split
  · exact .refused _
  · exact (h.setCpsr _).writePc x

theorem Twin.dataAbort (h : Twin q v s s') : OutcomeTwin q v (dataAbort s) (dataAbort s') := by
  simp only [Machine.dataAbort, h.pc]
  exact .next (h.enterException ..)

/-! ### Data accesses -/

theorem AccessTwin.refl {α : Type} (r : MemResult α) : AccessTwin q v r r := by
  cases r with
  | done a s => exact .done a .same
  | aborted => exact .aborted
  | fault x => exact .stop (.fault x)
  | refused x => exact .stop (.refused x)

theorem Twin.loadUnit (h : Twin q v s s') (z : Size) (a : Word) (priv : Bool) :
    AccessTwin q v (loadUnit z a priv s) (loadUnit z a priv s') := by
  cases h with
  | same => exact .refl _
  | other =>
    have h : Twin q v s (s.setGpr q v) := .other
    simp only [Machine.loadUnit, sfrRead, h.abortsAccess, h.memoryMap, h.bigend]
    repeat' split
    all_goals first
      | exact .aborted
      | exact .stop (.fault _)
      | exact .stop (.refused _)
      | exact .done _ .other

theorem Twin.storeUnit (h : Twin q v s s') (z : Size) (a x : Word) (priv : Bool) :
    AccessTwin q v (storeUnit z a x priv s) (storeUnit z a x priv s') := by
  cases h with
  | same => exact .refl _
  | other =>
    have h : Twin q v s (s.setGpr q v) := .other
    simp only [Machine.storeUnit, sfrWrite, h.abortsAccess, h.memoryMap, h.bigend, h.pc]
    repeat' split
    all_goals first
      | exact .aborted
      | exact .stop (.fault _)
      | exact .stop (.refused _)
      | exact .done _ .other

theorem AccessTwin.mapValue {r r' : MemResult Word} (h : AccessTwin q v r r') (g : Word → Word) :
    AccessTwin q v (r.mapValue g) (r'.mapValue g) := by
  cases h with
  | done a h => exact .done (g a) h
  | aborted => exact .aborted
  | stop x =>
    rw [mapValue_stop]
    exact .stop x

/-- A halfword at an odd address reads as the next free value. -/
theorem Twin.loadOddHalf (h : Twin q v s s') : AccessTwin q v (loadOddHalf s) (loadOddHalf s') := by
  simp only [Machine.loadOddHalf, h.nextDraw]
  exact .done _ h.drawn

theorem Twin.load (h : Twin q v s s') (k : LoadKind) (a : Word) (priv : Bool) :
    AccessTwin q v (k.load a priv s) (k.load a priv s') := by
  cases k with
  | word => exact (h.loadUnit ..).mapValue _
  | byte => exact h.loadUnit ..
  | signedByte => exact (h.loadUnit ..).mapValue _
  | half =>
    simp only [LoadKind.load, loadHalf]
    split
    · exact h.loadOddHalf
    · exact h.loadUnit ..
  | signedHalf =>
    simp only [LoadKind.load, loadSignedHalf]
    split
    · exact h.loadOddHalf
    · exact (h.loadUnit ..).mapValue _

theorem Twin.store (h : Twin q v s s') (z : Size) (a x : Word) (priv : Bool) :
    AccessTwin q v (storeOf z a x priv s) (storeOf z a x priv s') := by
  cases z with
  | byte => exact h.storeUnit ..
  | half =>
    simp only [storeOf, storeHalf]
    split
    · exact .refl _
    · exact h.storeUnit ..
  | word =>
    simp only [storeOf, storeWord, h.refusesUnaligned]
    split
    · exact .refl _
    · exact h.storeUnit ..

/-! ### The ends of the classes -/

theorem Twin.writeResult (h : Twin q v s s') (sf : Bool) (rd : Reg) (r : AluResult) :
    OutcomeTwin q v (writeResult sf rd r s) (writeResult sf rd r s') := by
  have hreg := h.setReg rd r.val
  unfold Machine.writeResult
  cases sf with
  | true =>
    split
    · exact h.exceptionReturn _
    · exact (hreg.setAluFlags r).advance
  | false =>
    split
    · exact h.writePc _
    · exact hreg.advance

theorem Twin.writeProduct (h : Twin q v s s') (sf : Bool) (rd : Reg) (r : Word) :
    OutcomeTwin q v (writeProduct sf rd r s) (writeProduct sf rd r s') := by
  cases sf with
  | true => exact ((h.setReg rd r).setMulFlags r).advance
  | false => exact (h.setReg rd r).advance

theorem Twin.writeLongProduct (h : Twin q v s s') (sf : Bool) (rdHi rdLo : Reg) (p : BitVec 64) :
    OutcomeTwin q v (writeLongProduct sf rdHi rdLo p s) (writeLongProduct sf rdHi rdLo p s') := by
  have hregs := (h.setReg rdLo (p.extractLsb' 0 32)).setReg rdHi (p.extractLsb' 32 32)
  cases sf with
  | true => exact (hregs.setLongFlags p).advance
  | false => exact hregs.advance

theorem Twin.writeWholeCpsr (h : Twin q v s s') (x : Word) :
    OutcomeTwin q v (writeWholeCpsr x s) (writeWholeCpsr x s') := by
  simp only [Machine.writeWholeCpsr, h.privileged, congrArg PSR.t h.cpsr]
  split
  · exact (h.setCpsr _).advance.refuseIf _ _
  · exact (h.setFlagsOf x).advance

theorem Twin.changeSpsr (h : Twin q v s s') (f : PSR → PSR) : OutcomeTwin q v (changeSpsr f s) (changeSpsr f s') := by
  simp only [Machine.changeSpsr, h.spsr]
  split
  · exact .refused _
  · exact (h.setSpsr _).advance

theorem Twin.writePsrFlags (h : Twin q v s s') (pd : Bool) (x : Word) :
    OutcomeTwin q v (writePsrFlags pd x s) (writePsrFlags pd x s') := by
  cases pd with
  | true => exact h.changeSpsr _
  | false => exact (h.setFlagsOf x).advance

theorem Twin.finishLoad (h : Twin q v s s') {r r' : MemResult Word} (hr : AccessTwin q v r r') (x : Indexed)
    (rn rd : Reg) : OutcomeTwin q v (finishLoad r x rn rd s) (finishLoad r' x rn rd s') := by
  cases hr with
  | done d h1 =>
    have hbase := h1.writeBase rn x
    simp only [Machine.finishLoad]
    split
    · exact hbase.writePc d
    · exact (hbase.setReg rd d).advance
  | aborted => exact (h.writeBase rn x).dataAbort
  | stop y =>
    rw [finishLoad_stop, finishLoad_stop]
    exact .stop y

theorem Twin.finishStore (h : Twin q v s s') {r r' : MemResult Unit} (hr : AccessTwin q v r r') (x : Indexed)
    (rn : Reg) : OutcomeTwin q v (finishStore r x rn s) (finishStore r' x rn s') := by
  cases hr with
  | done _ h1 => exact (h1.writeBase rn x).advance
  | aborted => exact (h.writeBase rn x).dataAbort
  | stop y =>
    rw [finishStore_stop, finishStore_stop]
    exact .stop y

/-- The end of a swap, once its read is done. -/
theorem Twin.swap (h : Twin q v s s') (rd : Reg) (k : LoadKind) (z : Size) (a x : Word) (priv : Bool) :
    OutcomeTwin q v (swap rd (k.load a priv) (storeOf z a x priv) s)
      (swap rd (k.load a priv) (storeOf z a x priv) s') := by
  have hload := h.load k a priv
  unfold Machine.swap
  generalize k.load a priv s = r at hload ⊢
  generalize k.load a priv s' = r' at hload ⊢
  cases hload with
  | aborted => exact h.dataAbort
  | stop y =>
    cases y with
    | fault f => exact .stop (.fault f)
    | refused f => exact .stop (.refused f)
  | @done d s1 s1' h1 =>
    have hstore := h1.store z a x priv
    dsimp only
    generalize storeOf z a x priv s1 = w at hstore ⊢
    generalize storeOf z a x priv s1' = w' at hstore ⊢
    cases hstore with
    | done _ h2 => exact (h2.setReg rd d).advance
    | aborted => exact h.dataAbort
    | stop y =>
      cases y with
      | fault f => exact .stop (.fault f)
      | refused f => exact .stop (.refused f)

/-! ### Block transfers -/

/-- Two runs of block loads that end alike. -/
inductive BlockLoadTwin (q : PhysReg) (v : Word) : BlockLoad → BlockLoad → Prop where
  | done (target : Option Word) {s s' : State} (h : Twin q v s s') :
      BlockLoadTwin q v (.done target s) (.done target s')
  | aborted {s s' : State} (h : Twin q v s s') : BlockLoadTwin q v (.aborted s) (.aborted s')
  | stop (x : Stop) : BlockLoadTwin q v x.blockLoad x.blockLoad

/-- Two runs of block stores that end alike. -/
inductive BlockStoreTwin (q : PhysReg) (v : Word) : BlockStore → BlockStore → Prop where
  | done (aborted : Bool) {s s' : State} (h : Twin q v s s') :
      BlockStoreTwin q v (.done aborted s) (.done aborted s')
  | stop (x : Stop) : BlockStoreTwin q v x.blockStore x.blockStore

theorem Twin.loadBlock {put : State → Reg → Word → State}
    (hput : ∀ {s s' : State}, Twin q v s s' → ∀ i x, Twin q v (put s i x) (put s' i x)) {regs : List Reg} :
    ∀ {s s' : State}, Twin q v s s' → ∀ (a : Word) (target : Option Word),
      BlockLoadTwin q v (loadBlock put regs a target s) (loadBlock put regs a target s') := by
  induction regs with
  | nil => exact fun h _ target => .done target h
  | cons i rest ih =>
    intro s s' h a target
    have hload := h.loadUnit .word a s.privileged
    simp only [Machine.loadBlock, h.privileged]
    generalize Machine.loadUnit .word a s.privileged s = r at hload ⊢
    generalize Machine.loadUnit .word a s.privileged s' = r' at hload ⊢
    cases hload with
    | aborted => exact .aborted h
    | stop x =>
      cases x with
      | fault f => exact .stop (.fault f)
      | refused f => exact .stop (.refused f)
    | done d h1 =>
      dsimp only
      split
      · exact ih h1 ..
      · exact ih (hput h1 i d) ..

theorem Twin.storeBlock {vs : List Word} : ∀ {s s' : State}, Twin q v s s' → ∀ (a : Word) (ab : Bool),
    BlockStoreTwin q v (storeBlock vs a ab s) (storeBlock vs a ab s') := by
  induction vs with
  | nil => exact fun h _ ab => .done ab h
  | cons x rest ih =>
    intro s s' h a ab
    have hstore := h.storeUnit .word a x s.privileged
    simp only [Machine.storeBlock, h.privileged]
    generalize Machine.storeUnit .word a x s.privileged s = r at hstore ⊢
    generalize Machine.storeUnit .word a x s.privileged s' = r' at hstore ⊢
    cases hstore with
    | aborted => exact ih h ..
    | stop y =>
      cases y with
      | fault f => exact .stop (.fault f)
      | refused f => exact .stop (.refused f)
    | done _ h1 => exact ih h1 ..

theorem BlockLoadTwin.finish {r r' : BlockLoad} (hr : BlockLoadTwin q v r r')
    {finish finish' : Option Word → State → Outcome} {abort abort' : State → Outcome}
    (hfinish : ∀ {s s' : State}, Twin q v s s' → ∀ x, OutcomeTwin q v (finish x s) (finish' x s'))
    (habort : ∀ {s s' : State}, Twin q v s s' → OutcomeTwin q v (abort s) (abort' s')) :
    OutcomeTwin q v (finishLoadBlock finish abort r) (finishLoadBlock finish' abort' r') := by
  cases hr with
  | done target h => exact hfinish h target
  | aborted h => exact habort h
  | stop x =>
    rw [finishLoadBlock_stop, finishLoadBlock_stop]
    exact .stop x

theorem Twin.pcOrAdvance {write : Word → State → Outcome} (h : Twin q v s s')
    (hwrite : ∀ x, OutcomeTwin q v (write x s) (write x s')) (target : Option Word) :
    OutcomeTwin q v (pcOrAdvance write target s) (pcOrAdvance write target s') := by
  cases target with
  | none => exact h.advance
  | some x => exact hwrite x

theorem Twin.abortedLoadBlock (h : Twin q v s s') (w : Bool) (rn : Reg) (base newBase : Word) :
    OutcomeTwin q v (abortedLoadBlock w rn base newBase s) (abortedLoadBlock w rn base newBase s') :=
  (h.setReg ..).dataAbort

section
variable {f : BlockForm} (h : Twin q v s s') (hrn : s'.readReg 8#32 f.rn = s.readReg 8#32 f.rn)
include h hrn

/-- An LDM in the current mode's bank reads its base only. -/
theorem Twin.loads {write : Word → State → Outcome}
    (hwrite : ∀ {s s' : State}, Twin q v s s' → ∀ x, OutcomeTwin q v (write x s) (write x s')) :
    OutcomeTwin q v
      (Machine.blockChecked f.rn f.list s
        (finishLoadBlock (Machine.pcOrAdvance write) (f.abortedLoad s) (f.loads s)))
      (Machine.blockChecked f.rn f.list s'
        (finishLoadBlock (Machine.pcOrAdvance write) (f.abortedLoad s') (f.loads s'))) := by
  have hruns : BlockLoadTwin q v (f.loads s) (f.loads s') := by
    simp only [BlockForm.loads, BlockForm.start, BlockForm.newBase, hrn]
    exact Twin.loadBlock Twin.setReg (h.withNewBase ..) ..
  refine (hruns.finish (fun h x => h.pcOrAdvance (hwrite h) x) fun h => ?_).blockChecked h hrn _
  simp only [BlockForm.abortedLoad, BlockForm.newBase, hrn]
  exact h.abortedLoadBlock ..

/-- A user-bank LDM reads its base only. -/
theorem Twin.userLoads :
    OutcomeTwin q v
      (Machine.blockChecked f.rn f.list s
        (finishLoadBlock (fun _ s1 => Machine.advance { s1 with bankHazard := s.hasBank })
          (Machine.abortedLoadBlock false f.rn (s.readReg 8#32 f.rn) (s.readReg 8#32 f.rn)) (f.userLoads s)))
      (Machine.blockChecked f.rn f.list s'
        (finishLoadBlock (fun _ s1 => Machine.advance { s1 with bankHazard := s'.hasBank })
          (Machine.abortedLoadBlock false f.rn (s'.readReg 8#32 f.rn) (s'.readReg 8#32 f.rn)) (f.userLoads s'))) := by
  have hruns : BlockLoadTwin q v (f.userLoads s) (f.userLoads s') := by
    simp only [BlockForm.userLoads, BlockForm.start, hrn]
    exact Twin.loadBlock Twin.setUserReg h ..
  rw [h.hasBank, hrn]
  exact (hruns.finish (fun h _ => (h.setBankHazard _).advance) fun h => h.abortedLoadBlock ..).blockChecked h hrn _

/-- An STM reads its base and the registers that it stores. -/
theorem Twin.stores {value value' : Reg → Word} (hvalue : ∀ g ∈ regsOf f.list, value' g = value g) :
    OutcomeTwin q v
      (Machine.blockChecked f.rn f.list s
        (finishStoreBlock f s (Machine.storeBlock (f.words s value) (f.start s) false s)))
      (Machine.blockChecked f.rn f.list s'
        (finishStoreBlock f s' (Machine.storeBlock (f.words s' value') (f.start s') false s'))) := by
  have hnew : f.newBase s' = f.newBase s := by simp only [BlockForm.newBase, hrn]
  have hstart : f.start s' = f.start s := by simp only [BlockForm.start, hrn]
  have hwords : f.words s' value' = f.words s value := by
    apply List.ext_getElem (by simp)
    intro k hk _
    simp [BlockForm.words, BlockForm.stored, hnew, hvalue _ (List.getElem_mem _)]
  have hruns := Twin.storeBlock (vs := f.words s value) h (f.start s) false
  rw [hwords, hstart]
  refine OutcomeTwin.blockChecked ?_ h hrn _
  generalize Machine.storeBlock (f.words s value) (f.start s) false s = r at hruns ⊢
  generalize Machine.storeBlock (f.words s value) (f.start s) false s' = r' at hruns ⊢
  cases hruns with
  | done aborted h1 =>
    have hbase := h1.withNewBase f.w f.rn (f.newBase s)
    cases aborted with
    | true => simpa only [finishStoreBlock, hnew] using hbase.dataAbort
    | false => simpa only [finishStoreBlock, hnew] using hbase.advance
  | stop x =>
    rw [finishStoreBlock_stop, finishStoreBlock_stop]
    exact .stop x

theorem Twin.execLdmRestore : OutcomeTwin q v (execLdmRestore f.cond f.p f.u f.w f.rn f.list s)
    (execLdmRestore f.cond f.p f.u f.w f.rn f.list s') := by
  rw [execLdmRestore_eq, execLdmRestore_eq, h.privileged, h.spsr]
  exact (((h.loads hrn Twin.exceptionReturn).refuseIf _ _).refuseIf _ _).conditionally h _

theorem Twin.execLdmUser : OutcomeTwin q v (execLdmUser f.cond f.p f.u f.w f.rn f.list s)
    (execLdmUser f.cond f.p f.u f.w f.rn f.list s') := by
  rw [execLdmUser_eq, execLdmUser_eq, h.privileged]
  exact (((h.userLoads hrn).refuseIf _ _).refuseIf _ _).conditionally h _

end

theorem Twin.execStmUser {f : BlockForm} (hf : f.w = false) (h : Twin q v s s')
    (hrn : s'.readReg 8#32 f.rn = s.readReg 8#32 f.rn)
    (hvalue : ∀ g ∈ regsOf f.list, s'.readUserReg g = s.readUserReg g) (w : Bool) :
    OutcomeTwin q v (execStmUser f.cond f.p f.u w f.rn f.list s) (execStmUser f.cond f.p f.u w f.rn f.list s') := by
  rw [execStmUser_eq hf, execStmUser_eq hf, h.privileged]
  exact (((h.stores hrn hvalue).refuseIf _ _).refuseIf _ _).conditionally h _

end

/-! ### The registers that an instruction reads (70_reset_and_hazards.md R621) -/

/-- Two states with one CPSR that read the same in every register number that `i` reads. -/
structure SameReads (i : Instr) (s s' : State) : Prop where
  cpsr : s'.cpsr = s.cpsr
  reads : ∀ r ∈ i.reads, ∀ k, s'.readReg k r = s.readReg k r

section
variable {i : Instr} {s s' : State} (h : SameReads i s s')
include h

theorem resultForm_congr : resultForm i s' = resultForm i s := by
  obtain ⟨hcpsr, hreads⟩ := h
  cases i <;> simp only [Instr.reads, List.forall_mem_cons] at hreads <;>
    simp only [resultForm, immOperand, shiftOperand, regShiftOperand, hcpsr, hreads]

theorem testForm_congr : testForm i s' = testForm i s := by
  obtain ⟨hcpsr, hreads⟩ := h
  cases i <;> simp only [Instr.reads, List.forall_mem_cons] at hreads <;>
    simp only [testForm, immOperand, shiftOperand, regShiftOperand, hcpsr, hreads]

theorem mulForm_congr : mulForm i s' = mulForm i s := by
  have hreads := h.reads
  cases i <;> simp only [Instr.reads, List.forall_mem_cons] at hreads <;> simp only [mulForm, hreads]

theorem loadForm_congr : loadForm i s' = loadForm i s := by
  obtain ⟨hcpsr, hreads⟩ := h
  cases i <;> simp only [Instr.reads, List.forall_mem_cons] at hreads <;>
    simp only [loadForm, shiftedOffset, State.privileged, hcpsr, hreads]

theorem storeForm_congr : storeForm i s' = storeForm i s := by
  obtain ⟨hcpsr, hreads⟩ := h
  cases i <;> simp only [Instr.reads, List.forall_mem_cons] at hreads <;>
    simp only [storeForm, shiftedOffset, State.privileged, hcpsr, hreads]

theorem LongForm.exact_congr {f : LongForm} (hf : longForm i = some f) : f.exact s' = f.exact s := by
  have hreads := h.reads
  cases i <;> simp only [longForm, Option.some.injEq, reduceCtorEq] at hf <;> subst hf <;>
    simp only [Instr.reads, List.forall_mem_cons] at hreads <;>
    simp only [LongForm.exact, hreads, if_false, Bool.false_eq_true]

end

theorem storeForm_reads {i : Instr} {s : State} {f : TransferForm} (h : storeForm i s = some f) : f.rd ∈ i.reads := by
  cases i <;> simp only [storeForm, Option.some.injEq, reduceCtorEq] at h <;> subst h <;> simp [Instr.reads]

theorem ldmForm_reads {i : Instr} {f : BlockForm} (h : ldmForm i = some f) : f.rn ∈ i.reads := by
  cases i <;> simp only [ldmForm, Option.some.injEq, reduceCtorEq] at h <;> subst h <;> simp [Instr.reads]

theorem stmForm_reads {i : Instr} {f : BlockForm} (h : stmForm i = some f) : i.reads = f.rn :: regsOf f.list := by
  cases i <;> simp only [stmForm, Option.some.injEq, reduceCtorEq] at h <;> subst h <;> rfl

/-! ### Every instruction -/

section
variable {q : PhysReg} {v : Word} {i : Instr} {s s' : State} (h : Twin q v s s') (hr : SameReads i s s')
include h hr

/-- An instruction run in twins that agree in all it reads ends alike, by its class. -/
theorem exec_twin (huser : ∀ c p u w rn list, i = .stmUser c p u w rn list →
    ∀ r ∈ regsOf list, s'.readUserReg r = s.readUserReg r) : OutcomeTwin q v (exec i s) (exec i s') := by
  have hread : ∀ r ∈ i.reads, s'.readReg 8#32 r = s.readReg 8#32 r := fun r hmem => hr.reads r hmem 8#32
  cases instrClass s i with
  | result hf =>
    rw [exec_resultForm_eq hf, exec_resultForm_eq ((resultForm_congr hr).trans hf), h.cpsr]
    exact ((h.writeResult ..).unlessBroken _).conditionally h _
  | test hf =>
    rw [exec_testForm_eq hf, exec_testForm_eq ((testForm_congr hr).trans hf), h.cpsr]
    exact ((h.setAluFlags _).advance.unlessBroken _).conditionally h _
  | mul hf =>
    rw [exec_mulForm_eq hf, exec_mulForm_eq ((mulForm_congr hr).trans hf)]
    exact ((h.writeProduct ..).unlessBroken _).conditionally h _
  | long hf =>
    rw [exec_longForm_eq hf, exec_longForm_eq hf, LongForm.exact_congr hr hf]
    exact ((h.writeLongProduct ..).unlessBroken _).conditionally h _
  | load hf =>
    rw [exec_loadForm_eq hf, exec_loadForm_eq ((loadForm_congr hr).trans hf)]
    exact ((h.finishLoad (h.load ..) ..).unlessBroken _).conditionally h _
  | store hf =>
    rw [exec_storeForm_eq hf, exec_storeForm_eq ((storeForm_congr hr).trans hf), hr.reads _ (storeForm_reads hf)]
    exact ((h.finishStore (h.store ..) ..).unlessBroken _).conditionally h _
  | ldm hf =>
    rw [exec_ldmForm_eq hf, exec_ldmForm_eq hf, loadMultiple_eq, loadMultiple_eq]
    exact (h.loads (hread _ (ldmForm_reads hf)) Twin.writePc).conditionally h _
  | stm hf =>
    have hregs := stmForm_reads hf ▸ hr.reads
    obtain ⟨hrn, hvalues⟩ := List.forall_mem_cons.mp hregs
    rw [exec_stmForm_eq hf, exec_stmForm_eq hf, storeMultiple_eq, storeMultiple_eq]
    exact (h.stores (hrn _) fun g hg => hvalues g hg _).conditionally h _
  | ldmRestore c p u w rn list => exact h.execLdmRestore (f := ⟨c, p, u, w, rn, list⟩) (hread rn (.head _))
  | ldmUser c p u w rn list => exact h.execLdmUser (f := ⟨c, p, u, w, rn, list⟩) (hread rn (.head _))
  | stmUser c p u w rn list =>
    exact h.execStmUser (f := ⟨c, p, u, false, rn, list⟩) rfl (hread rn (.head _)) (huser _ _ _ _ _ _ rfl) w
  | swp c rn rd rm =>
    simp only [exec, execSwp, swapChecked, hread rn (.head _), hread rm (.tail _ (.head _)), h.privileged,
      h.refusesUnaligned]
    exact (((h.swap rd .word .word ..).refuseIf _ _).refuseIf _ _).conditionally h c
  | swpb c rn rd rm =>
    simp only [exec, execSwpb, swapChecked, hread rn (.head _), hread rm (.tail _ (.head _)), h.privileged]
    exact ((h.swap rd .byte .byte ..).refuseIf _ _).conditionally h c
  | branchExchange c rn =>
    simp only [exec, execBx, hread rn (.head _)]
    exact (((h.setThumb _).writePc _).refuseIf _ _).conditionally h c
  | branch c off =>
    simp only [exec, execB, h.pc]
    exact (OutcomeTwin.next (h.setPc _)).conditionally h c
  | branchLink c off =>
    simp only [exec, execBl, h.pc]
    exact (OutcomeTwin.next ((h.setReg ..).setPc _)).conditionally h c
  | mrs c ps rd =>
    simp only [exec, execMrs, h.sourcePsr, h.nextDraw]
    refine (OutcomeTwin.refuseIf ?_ _ _).conditionally h c
    split
    · exact .refused _
    · exact (h.drawn.setReg ..).advance
  | msrReg c pd rm =>
    simp only [exec, execMsrReg, hread rm (.head _)]
    refine (OutcomeTwin.refuseIf ?_ _ _).conditionally h c
    split
    · exact h.changeSpsr _
    · exact h.writeWholeCpsr _
  | msrFlagsReg c pd rm =>
    simp only [exec, execMsrFlagsReg, hread rm (.head _)]
    exact ((h.writePsrFlags ..).refuseIf _ _).conditionally h c
  | msrFlagsImm c pd o => exact (h.writePsrFlags ..).conditionally h c
  | trap hf =>
    rw [exec_trapForm_eq hf, exec_trapForm_eq hf, undefinedTrap, undefinedTrap, h.pc]
    exact (OutcomeTwin.next (h.enterException ..)).conditionally h _
  | swi c comment =>
    simp only [exec, execSwi, swiTrap, h.pc]
    exact (OutcomeTwin.next (h.enterException ..)).conditionally h c

end

/-! ### The obligation -/

theorem State.readReg_setGpr_other (s : State) {q : PhysReg} (v : Word) {r : Reg} (h : bank s.cpsr.m r ≠ some q)
    (k : Word) : (s.setGpr q v).readReg k r = s.readReg k r := by
  simp only [State.readReg, State.setGpr_cpsr, State.setGpr_pc]
  split
  · next p hp => exact s.gpr_setGpr_other v fun e => h (e ▸ hp)
  · rfl

theorem State.readUserReg_setGpr_other (s : State) {q : PhysReg} (v : Word) {r : Reg} (h : userBank r ≠ some q) :
    (s.setGpr q v).readUserReg r = s.readUserReg r := by
  simp only [State.readUserReg, State.setGpr_pc]
  split
  · next p hp => exact s.gpr_setGpr_other v fun e => h (e ▸ hp)
  · rfl

/-- Settles O58: a state and the state with another value in a register that is not read are twins, and every
instruction ends alike in twins. -/
theorem onlyListedRegistersAreRead : Obligations.OnlyListedRegistersAreRead := by
  intro i s q v hreads huser
  have hend : OutcomeTwin q v (exec i s) (exec i (s.setGpr q v)) :=
    exec_twin .other ⟨rfl, fun r hr => s.readReg_setGpr_other v (hreads r hr)⟩
      fun c p u w rn list hi r hr => s.readUserReg_setGpr_other v (huser c p u w rn list hi r hr)
  exact ⟨fun x => hend.of_stop (x := .fault x), fun x => hend.of_stop (x := .refused x), fun _ => hend.of_next⟩

end Sys2Proof.Machine
